-- ==== Sys2Proof/Word.lean ====
section
/-! DEFINITION. The word types of the WK4620: bytes (lanes), 16-bit words and 18-bit word addresses (spec/00_scope.md, 1.8). -/

namespace Sys2Proof

/-- One lane of a word (00_scope.md 1.8: the HIGH lane is bits 15–8 and the LOW lane bits 7–0). -/
abbrev Byte := BitVec 8

/-- One bus word, D15–D0. -/
abbrev Word := BitVec 16

/-- An 18-bit word address, WA17–WA0 (00_scope.md 1.8: 0 to 262,143). -/
abbrev Addr := BitVec 18

/-- A timer: stopped (`none`) or running toward its duration, in microseconds.
How much of the duration has passed is not modelled (assumption log 3). -/
abbrev Timer := Option Nat

end Sys2Proof
end

