-- ==== Sys2Proof/Syntax.lean ====
section
/-! DEFINITION. The commands: one constructor for each row of spec/opcode_table.json. The table gives
the rows no operand fields; the operands are those of an input from outside the part (assumption log 26). -/

namespace Sys2Proof

/-- The two axes of driver groups: X (columns) and Y (lines) (R5, R95). -/
inductive Axis where
  | x
  | y
  deriving DecidableEq, Repr

/-- The eighteen fault inputs (R95, R106): HVOK, HVOC, GFX0–GFX7 and GFY0–GFY7. -/
inductive FaultInput where
  | hvok
  | hvoc
  | group (axis : Axis) (g : Nat)
  deriving DecidableEq, Repr

/-- The rows of spec/opcode_table.json, in the table's order. -/
inductive Instr where
  /-- POR_ASSERT (R122, R51, R95, R155). -/
  | porAssert
  /-- POR_END (R140, R122): the levels on CPS1–CPS0 that are sampled. -/
  | porEnd (straps : BitVec 2)
  /-- SYSCLR (R111, R66, R121, R134, R156). -/
  | sysclr
  /-- SYSCLR_NEGATE (R66). -/
  | sysclrNegate
  /-- BUS_READ (R51): the word address on WA17–WA0. -/
  | busRead (address : Addr)
  /-- BUS_WRITE (R51, R58): address, lane strobes and data. -/
  | busWrite (address : Addr) (ubs lbs : Bool) (data : Word)
  /-- STALL_EXPIRY (R60). -/
  | stallExpiry
  /-- HELD_WRITE_PLACED (R59, R60). -/
  | heldWritePlaced
  /-- PASSTHROUGH_READ_DONE (R51). -/
  | passthroughReadDone
  /-- PASSTHROUGH_WRITE_DONE (R52–R55, R62). -/
  | passthroughWriteDone
  /-- STAGED_WRITE (R139). -/
  | stagedWrite
  /-- COMMIT (R141). -/
  | commit
  /-- RESTART_PANEL (R146). -/
  | restartPanel
  /-- STOP_PANEL (R146, R105). -/
  | stopPanel
  /-- CLEAR_FAULTS (R146, R110). -/
  | clearFaults
  /-- RELEASE (R147). -/
  | release
  /-- START_COPY (R125). -/
  | startCopy
  /-- CANCEL_COPY (R132). -/
  | cancelCopy
  /-- RESWEEP_ALL (R146, R74). -/
  | resweepAll
  /-- REPORT_NOW (R147). -/
  | reportNow
  /-- UNKNOWN_COMMAND (R145). -/
  | unknownCommand
  /-- COMMIT_APPLY (R41, R143). -/
  | commitApply
  /-- CAPTURE_ITEM (R40, R44). -/
  | captureItem
  /-- RESWEEP_ITEM (R40, R45, R71). -/
  | resweepItem
  /-- WIPE_ITEM (R47). -/
  | wipeItem
  /-- FREE_ENTRY_WAIT_END (R42). -/
  | freeEntryWaitEnd
  /-- PICTURE_READ_DONE (R45, R77). -/
  | pictureReadDone
  /-- CELL_WORD_READ_DONE (R43). -/
  | cellWordReadDone
  /-- WRITE_BACK_DONE (R33, R43). -/
  | writeBackDone
  /-- WIPE_WRITE_DONE (R47). -/
  | wipeWriteDone
  /-- SUSTAIN_CYCLE_START (R82, R85). -/
  | sustainCycleStart
  /-- PHASE_B_START (R82). -/
  | phaseBStart
  /-- ADDRESS_PULSE_START (R92). -/
  | addressPulseStart
  /-- ADDRESS_PULSE_END (R92). -/
  | addressPulseEnd
  /-- RAMP_TICK (R83). -/
  | rampTick
  /-- FAULT_INPUT_CHANGE (R106): the input and the level it takes (true: asserted). -/
  | faultInputChange (input : FaultInput) (level : Bool)
  /-- HVOK_SEEN (R97, R98). -/
  | hvokSeen
  /-- HVOK_LOST (R106). -/
  | hvokLost
  /-- HVOC_SEEN (R106). -/
  | hvocSeen
  /-- GROUP_STRIKE (R108): the group whose debounce expires. -/
  | groupStrike (axis : Axis) (g : Nat)
  /-- CHARGE_TIMEOUT (R97). -/
  | chargeTimeout
  /-- REST_END (R103). -/
  | restEnd
  /-- LIT_DURATION_EXPIRY (R100). -/
  | litDurationExpiry
  /-- REFRESH_DUE (R116). -/
  | refreshDue
  /-- REFRESH_DONE (R116). -/
  | refreshDone
  /-- GRANT_DECISION (R113). -/
  | grantDecision
  /-- REPORT_BLOCK_GRANT (R154). -/
  | reportBlockGrant
  /-- REPORT_BLOCK_DONE (R154). -/
  | reportBlockDone
  /-- IMAGE_GRANT_DONE (R119). -/
  | imageGrantDone
  /-- COPY_READ_DONE (R126, R127). -/
  | copyReadDone
  /-- COPY_PLACE_GIVEN (R129). -/
  | copyPlaceGiven
  /-- COPY_WRITE_DONE (R128). -/
  | copyWriteDone
  deriving DecidableEq, Repr

end Sys2Proof
end

