-- ==== Sys2Proof/Decode.lean ====
section
/-! DEFINITION. The command a word spells by the bits of spec/opcode_table.json. No row of the table
gives bits ("n_rows_with_fixed": 0, "n_rows_with_fields": 0 in spec/98_reader.md), so no word spells one. -/

namespace Sys2Proof

/-- The command that the low `nbits` bits of `w` spell: none, because the table gives its rows no bits. -/
def decodeTableWord (_nbits _w : Nat) : Option Instr := none

end Sys2Proof
end

