-- ==== Sys2Proof/Config.lean ====
section
/-! DEFINITION. What is fixed for the part, and the free values the manual leaves open. -/

namespace Sys2Proof.Config

/-- FREE VALUE (R122, R31: "DRAM contents are undefined after power-on"; assumption log 5): the byte
lane `key` as power-on number `epoch` left it. It has no body, so nothing can be proved of its value. -/
opaque dramPowerOn (epoch key : Nat) : Byte

/-- FREE VALUE (R113: "The port takes one of them first, and either may be first"; assumption log 32): which of
the requests that have arrived together at an idle port is taken first, at the `tie`-th such moment. -/
opaque takenFirst (tie : Nat) : Nat

/-- The charge timer, 60 ms (R95, R97). -/
def chargeMicros : Nat := 60000

/-- The rest timer, 120 ms (R95, R103). -/
def restMicros : Nat := 120000

/-- The LIT-duration timer, 3 s (R95, R100). -/
def litMicros : Nat := 3000000

/-- The refresh timer, 14 µs (R112, R116). -/
def refreshMicros : Nat := 14

/-- The words of DRAM (00_scope.md 1.8). -/
def dramWords : Nat := 262144

/-- The places of the capture list (R57). -/
def capturePlaces : Nat := 16

/-- The most orders the change queue may hold when a cell word is begun (R42). -/
def freeEntryLimit : Nat := 240

/-- The plane words a wipe writes (R5, R47). -/
def planeWords : Nat := 16384

/-- The recovery count at which the sequencer is barred (R102). -/
def recoveryLimit : Nat := 5

end Sys2Proof.Config
end

