-- ==== Sys2Proof/Machine/State.lean ====
section
/-! DEFINITION. The state of the WK4620, block by block as spec/00_scope.md section 1.3 lists them, its
faults and refusals, and the state right after power-on reset. Plain data throughout. -/

namespace Sys2Proof.Machine

/-! ### Names the manual gives -/

/-- The lanes of a write that carries at least one (00_scope.md 1.8, R56). -/
inductive Lanes where
  | high
  | low
  | both
  deriving DecidableEq, Repr

/-- Pixel formats (R1). -/
inductive PixelFormat where
  | tone4
  | dot1
  deriving DecidableEq, Repr

/-- Dither modes (R21). -/
inductive DitherMode where
  | ordered
  | fixed
  deriving DecidableEq, Repr

/-- Panel states (R95). -/
inductive PanelState where
  | dark
  | charging
  | clearing
  | lit
  | resting
  | barred
  deriving DecidableEq, Repr

/-- Kinds of cell order (R34). -/
inductive OrderKind where
  | light
  | quench
  deriving DecidableEq, Repr

/-- Guard decisions (R58, R60). -/
inductive GuardDecision where
  | unplaced
  | placed
  | held
  | expired
  deriving DecidableEq, Repr

/-- Command outcomes (R138). -/
inductive CommandOutcome where
  | none
  | done
  | busy
  | wrongState
  | range
  | unknown
  deriving DecidableEq, Repr

/-- Copy outcomes (R124, R138). -/
inductive CopyOutcome where
  | none
  | active
  | done
  | cancelled
  | aborted
  | guarded
  deriving DecidableEq, Repr

/-- Block states of the report unit (R153). -/
inductive BlockState where
  | image
  | idle
  | waiting
  | writing
  deriving DecidableEq, Repr

/-- The phase of the sustain cycle in progress (R80). `notBegun`: the sustain is stopped, or has just
started and its first cycle has not begun (R81). -/
inductive Phase where
  | notBegun
  | a
  | b
  deriving DecidableEq, Repr

/-! ### The parameter set -/

/-- One parameter set: the standing set (R39) or a checked set (R141). Fields are numbers after the
commit clamps; the masks and the enables are bits. -/
structure ParamSet where
  /-- picture base B (R1) -/
  base : Nat
  /-- pixel format (R1) -/
  format : PixelFormat
  /-- row pitch P (R1) -/
  pitch : Nat
  /-- picture width W (R1) -/
  width : Nat
  /-- picture height H (R1) -/
  height : Nat
  /-- origin X (R6) -/
  originX : Nat
  /-- origin Y (R6) -/
  originY : Nat
  /-- step X (R6) -/
  stepX : Nat
  /-- step Y (R6) -/
  stepY : Nat
  /-- margin level M (R20) -/
  margin : Nat
  /-- tone map (R18) -/
  toneMap : Vector Nat 16
  /-- dither mode (R21) -/
  ditherMode : DitherMode
  /-- fixed threshold F (R21) -/
  fixedThreshold : Nat
  /-- threshold matrix, T[r][c] at 4r + c (R21) -/
  matrix : Vector Nat 16
  /-- cursor line Lc (R24) -/
  cursorLine : Nat
  /-- horizontal thickness Th (R24) -/
  thicknessH : Nat
  /-- cursor column Cc (R24) -/
  cursorColumn : Nat
  /-- vertical thickness Tv (R24) -/
  thicknessV : Nat
  /-- sustain phase A (R84) -/
  phaseA : Nat
  /-- sustain phase B (R84) -/
  phaseB : Nat
  /-- ramp select (R83) -/
  rampSelect : Nat
  /-- address delay D (R90) -/
  addressDelay : Nat
  /-- address width Wd (R90) -/
  addressWidth : Nat
  /-- gather window G (R89) -/
  gatherWindow : Nat
  /-- stall limit (R61) -/
  stallLimit : Nat
  /-- fault debounce (R107) -/
  debounce : Nat
  /-- group fault mask X (R108) -/
  maskX : Byte
  /-- group fault mask Y (R108) -/
  maskY : Byte
  /-- cell plane block (R5) -/
  planeBlock : Nat
  /-- attention enables (R152) -/
  enables : BitVec 6
  deriving DecidableEq, Repr

/-- The standing set after POR (R1, R5, R6, R18, R20, R21, R24, R61, R83, R84, R89, R90, R107, R108, R152). -/
def ParamSet.por : ParamSet where
  base := 0
  format := .tone4
  pitch := 128
  width := 512
  height := 480
  originX := 0
  originY := 0
  stepX := 16
  stepY := 16
  margin := 0
  toneMap := #v[0, 1, 2, 3, 4, 5, 6, 7, 9, 10, 11, 12, 13, 14, 15, 16]
  ditherMode := .ordered
  fixedThreshold := 8
  matrix := #v[0, 12, 3, 15, 8, 4, 11, 7, 2, 14, 1, 13, 10, 6, 9, 5]
  cursorLine := 0
  thicknessH := 0
  cursorColumn := 0
  thicknessV := 0
  phaseA := 64
  phaseB := 64
  rampSelect := 2
  addressDelay := 8
  addressWidth := 16
  gatherWindow := 32
  stallLimit := 4
  debounce := 1
  maskX := 0
  maskY := 0
  planeBlock := 14
  enables := 0

/-! ### Passage and capture list (chapter 4) -/

/-- A bus cycle the passage has in hand, as sampled (R51). -/
inductive BusCycle where
  | read (address : Addr)
  | write (address : Addr) (lanes : Option Lanes) (data : Word) (decision : GuardDecision)
  deriving DecidableEq, Repr

/-- A bus cycle presented while SYSCLR or POR is asserted and not yet taken (R51, R66). -/
inductive PresentedCycle where
  | read (address : Addr)
  | write (address : Addr) (ubs lbs : Bool) (data : Word)
  deriving DecidableEq, Repr

/-- The bus passage (R51–R66). -/
structure Passage where
  /-- the cycle in hand (R51) -/
  inHand : Option BusCycle
  /-- a cycle presented and not yet taken (R66) -/
  presented : Option PresentedCycle
  /-- the stall timer (R60) -/
  stallTimer : Timer
  /-- guarded writes count (R54) -/
  guardedWrites : Word
  /-- RDY (R51) -/
  rdy : Bool
  /-- D15–D0 as the last read left them (R51) -/
  busData : Word
  deriving DecidableEq, Repr

/-- A capture record (R56). -/
structure CaptureRecord where
  address : Addr
  lanes : Lanes
  data : Word
  deriving DecidableEq, Repr

/-- The capture list (R57) with the overflow count (R63). -/
structure CaptureList where
  /-- records, oldest first -/
  records : List CaptureRecord
  reservations : Nat
  overflows : Word
  deriving DecidableEq, Repr

/-! ### Render stage, change queue, stale set (chapters 3 and 5) -/

/-- A cell word, named by its line and its word index (R5). -/
structure CellWord where
  line : Nat
  index : Nat
  deriving DecidableEq, Repr

/-- What the render stage is doing with the cell word in hand (R42, R43, R45). -/
inductive CellStep where
  /-- waiting for free entries (R42) -/
  | freeWait
  /-- reading the picture word at the head of the list (R45) -/
  | pictureRead
  /-- reading the cell word (R43 step 1) -/
  | cellRead
  /-- writing the working copy back (R43 step 4) -/
  | writeBack (working : Word)
  deriving DecidableEq, Repr

/-- The current render item (R39). -/
inductive RenderItem where
  /-- CAPTURE (R44): its record, the cell word in hand and the cell words left after it. -/
  | capture (record : CaptureRecord) (cell : CellWord) (rest : List CellWord) (stage : CellStep)
  /-- RESWEEP (R45): its cell word, the picture words read (address and content) and those still to read. -/
  | resweep (cell : CellWord) (got : List (Addr × Word)) (toRead : List Addr) (stage : CellStep)
  /-- WIPE (R47): the plane word being zeroed. -/
  | wipe (address : Addr)
  deriving DecidableEq, Repr

/-- The render stage (R39); the standing set is kept beside it, in `State.standing`. -/
structure RenderStage where
  item : Option RenderItem
  /-- consecutive-capture count, 0–8 -/
  captureCount : Nat
  /-- wipe position, 0–16,384 -/
  wipePosition : Nat
  deriving DecidableEq, Repr

/-- A cell order (R34). -/
structure CellOrder where
  column : Nat
  line : Nat
  kind : OrderKind
  deriving DecidableEq, Repr

/-- One panel line in the stale set: its flag and its capture hold (R67). -/
structure StaleLine where
  stale : Bool
  hold : Nat
  deriving DecidableEq, Repr

/-- The stale line set (R67). -/
structure StaleSet where
  lines : Vector StaleLine 512
  posLine : Nat
  posWord : Nat
  deriving DecidableEq, Repr

/-! ### Address stage (chapter 6) -/

/-- What is being pulsed: the current burst or a global erase (R86, R94). -/
inductive PulseOp where
  | burst (line : Nat) (kind : OrderKind) (columns : List Nat)
  | globalErase
  deriving DecidableEq, Repr

/-- A pulse in hand: the pulse used (R91) and whether its strobe is asserted (R92). -/
structure Pulse where
  op : PulseOp
  delay : Nat
  width : Nat
  strobe : Bool
  deriving DecidableEq, Repr

/-- The address stage (R80, R86–R88, R94). -/
structure AddressStage where
  running : Bool
  currentA : Nat
  currentB : Nat
  cycleA : Nat
  cycleB : Nat
  phase : Phase
  tick : Timer
  pulse : Option Pulse
  globalErases : Nat
  cellsAddressed : BitVec 32
  droppedOrders : Word
  deriving DecidableEq, Repr

/-- The account of what the cells of the glass show (R36, R38, R92–R94). Cell (column, line) has the
number 512·line + column. When `known` is false the manual does not say what the cells show
(after POR, and from a stop of the sustain to the next global erase); assumption log 16. -/
structure PanelGlass where
  known : Bool
  /-- the lit cells, in ascending order -/
  litCells : List Nat
  deriving DecidableEq, Repr

/-! ### Sequencer (chapter 7) -/

/-- The panel sequencer (R95), with the levels of its fault inputs (R106). -/
structure Sequencer where
  panel : PanelState
  recoveryCount : Nat
  /-- fault set, by the fault-kind bits of R138 -/
  faults : BitVec 6
  strikeX : Byte
  strikeY : Byte
  outX : Byte
  outY : Byte
  erasesDone : Bool
  wipeDone : Bool
  chargeTimer : Timer
  restTimer : Timer
  litTimer : Timer
  hven : Bool
  hvok : Bool
  hvoc : Bool
  gfx : Byte
  gfy : Byte
  debounceHvok : Timer
  debounceHvoc : Timer
  debounceX : Vector Timer 8
  debounceY : Vector Timer 8
  deriving DecidableEq, Repr

/-! ### Memory port (chapter 8) -/

/-- One access of the render stage (R114). -/
inductive RenderAccess where
  | readPicture (address : Addr)
  | readCell (address : Addr)
  | writeBack (address : Addr) (word : Word)
  | wipe (address : Addr)
  deriving DecidableEq, Repr

/-- One access of the copy engine (R114). -/
inductive CopyAccess where
  | read (address : Addr)
  | write (address : Addr) (word : Word)
  deriving DecidableEq, Repr

/-- A request of the report unit: a report block (R118) or image grant 1–4 (R119). -/
inductive ReportRequest where
  | block
  | image (n : Nat)
  deriving DecidableEq, Repr

/-- The current grant (R112). `owned`: its requester has not given the access up (R46, R120, R134). -/
inductive Grant where
  | refresh
  | passthrough
  /-- a report block; `none` until its values are taken (R154), then the words to write -/
  | reportBlock (values : Option (List Word))
  | image (n : Nat)
  | render (access : RenderAccess) (owned : Bool)
  | copy (access : CopyAccess) (owned : Bool)
  deriving DecidableEq, Repr

/-- The memory port (R112). The five `…Waiting` fields are the waiting set, at most one request of each requester. -/
structure MemoryPort where
  current : Option Grant
  /-- the model's own: a grant has just ended and the port has not yet decided (R113; assumption log 22) -/
  deciding : Bool
  /-- the model's own: how often requests have arrived together at an idle port, argument of the free value
  `Config.takenFirst` (assumption log 32) -/
  ties : Nat
  refreshWaiting : Bool
  passWaiting : Bool
  reportWaiting : Option ReportRequest
  renderWaiting : Option RenderAccess
  copyWaiting : Option CopyAccess
  /-- set until the refresh has completed (R116; assumption log 10) -/
  pendingRefresh : Bool
  refreshTimer : Timer
  refreshRow : Byte
  deriving DecidableEq, Repr

/-! ### Copy engine (chapter 9) -/

/-- Copy modes (R123). -/
inductive CopyMode where
  | copy
  | fill
  deriving DecidableEq, Repr

/-- A latched copy request (R123): `rows` is R and `words` is N. -/
structure CopyRequest where
  mode : CopyMode
  source : Nat
  sourcePitch : Nat
  dest : Nat
  destPitch : Nat
  rows : Nat
  words : Nat
  fill : Word
  deriving DecidableEq, Repr

/-- The step of the word in hand (R124). -/
inductive CopyStep where
  /-- no position is held -/
  | none
  | sourceRead
  /-- waiting for a capture place with the word to write (R129) -/
  | waitPlace (word : Word)
  | destWrite (word : Word) (decision : GuardDecision)
  deriving DecidableEq, Repr

/-- The rectangle copy engine (R124). -/
structure CopyEngine where
  request : Option CopyRequest
  row : Nat
  word : Nat
  step : CopyStep
  rowsRemaining : Nat
  outcome : CopyOutcome
  /-- a CANCEL COPY waits for the granted access to complete (R132) -/
  cancelling : Bool
  deriving DecidableEq, Repr

/-! ### Control block and report unit (chapters 10 and 11) -/

/-- A control-page write handed over to the control block (R55): offset, lanes, data. -/
structure HandOver where
  offset : Nat
  lanes : Lanes
  data : Word
  deriving DecidableEq, Repr

/-- The control block (R139, R141, R145). Commit-waiting is set exactly when `checked` holds a set (R149). -/
structure ControlBlock where
  /-- staged words of offsets 1–29, offset o at o − 1 -/
  params : Vector Word 29
  /-- staged words of offsets 64–95, offset o at o − 64 -/
  tables : Vector Word 32
  /-- copy-request words of offsets 96–105, offset o at o − 96 -/
  copyWords : Vector Word 10
  argument : Byte
  checked : Option ParamSet
  clampSet : Byte
  lastCode : Byte
  lastOutcome : CommandOutcome
  /-- control-page writes handed over and not yet dealt with, oldest first (R55; assumption log 11) -/
  handOvers : List HandOver
  deriving DecidableEq, Repr

/-- The report unit (R150, R151, R153). -/
structure ReportUnit where
  /-- pending cause set, by the cause bits of R138 -/
  causes : BitVec 6
  quietArmed : Bool
  due : Bool
  block : BlockState
  writeCount : Word
  atn : Bool
  deriving DecidableEq, Repr

/-! ### The whole state -/

/-- The state of the part. -/
structure State where
  /-- the commands that are waiting, first in, first out -/
  pending : List Instr
  /-- DRAM, one entry for each lane written since power-on, keys rising (assumption log 5, 6) -/
  dram : List Host.Cell
  /-- the model's own count of power-ons, argument of the free value `Config.dramPowerOn` -/
  dramEpoch : Nat
  /-- the CPS straps as sampled at the end of POR (R55, R135) -/
  straps : BitVec 2
  /-- POR is asserted -/
  por : Bool
  /-- SYSCLR is asserted (R66) -/
  sysclr : Bool
  /-- the standing set (R39) -/
  standing : ParamSet
  passage : Passage
  capture : CaptureList
  render : RenderStage
  /-- the change queue, oldest first (R34) -/
  queue : List CellOrder
  stale : StaleSet
  address : AddressStage
  glass : PanelGlass
  seq : Sequencer
  port : MemoryPort
  copy : CopyEngine
  control : ControlBlock
  report : ReportUnit
  deriving DecidableEq, Repr

/-- Faults: none. The manual names no event that stops the part; every access goes to an address that
exists (18-bit word addresses, 262,144 words), so no constructor is needed. -/
inductive Fault where
  deriving DecidableEq, Repr

/-- Refusals. -/
inductive Refusal where
  /-- Raised by no arm of exec: every row of the table has its meaning. Safe. -/
  | notModelled (mnemonic : String)
  deriving DecidableEq, Repr

/-! ### The state right after power-on reset -/

/-- The passage after POR (04, section 4.8). -/
def Passage.por : Passage where
  inHand := none
  presented := none
  stallTimer := none
  guardedWrites := 0
  rdy := true
  busData := 0

/-- The capture list after POR (04, section 4.8). -/
def CaptureList.por : CaptureList where
  records := []
  reservations := 0
  overflows := 0

/-- The render stage after POR (R39). -/
def RenderStage.por : RenderStage where
  item := none
  captureCount := 0
  wipePosition := 0

/-- A stale set with every flag clear, every hold 0 and the position at line 0, word 0 (R67). -/
def StaleSet.clear : StaleSet where
  lines := Vector.replicate 512 ⟨false, 0⟩
  posLine := 0
  posWord := 0

/-- The address stage after POR (06, section 6.8). -/
def AddressStage.por : AddressStage where
  running := false
  currentA := 64
  currentB := 64
  cycleA := 64
  cycleB := 64
  phase := .notBegun
  tick := none
  pulse := none
  globalErases := 0
  cellsAddressed := 0
  droppedOrders := 0

/-- The glass when nothing is said of what it shows. -/
def PanelGlass.unknown : PanelGlass where
  known := false
  litCells := []

/-- The sequencer after POR (R95, R111), with every fault input negated (assumption log 7). -/
def Sequencer.por : Sequencer where
  panel := .dark
  recoveryCount := 0
  faults := 0
  strikeX := 0
  strikeY := 0
  outX := 0
  outY := 0
  erasesDone := false
  wipeDone := false
  chargeTimer := none
  restTimer := none
  litTimer := none
  hven := false
  hvok := false
  hvoc := false
  gfx := 0
  gfy := 0
  debounceHvok := none
  debounceHvoc := none
  debounceX := Vector.replicate 8 none
  debounceY := Vector.replicate 8 none

/-- The memory port at the end of POR (R122), with the report unit's first request made (R119). -/
def MemoryPort.por : MemoryPort where
  current := none
  deciding := false
  ties := 0
  refreshWaiting := false
  passWaiting := false
  reportWaiting := some (.image 1)
  renderWaiting := none
  copyWaiting := none
  pendingRefresh := false
  refreshTimer := some Config.refreshMicros
  refreshRow := 0

/-- The copy engine after POR (R124). -/
def CopyEngine.por : CopyEngine where
  request := none
  row := 0
  word := 0
  step := .none
  rowsRemaining := 0
  outcome := .none
  cancelling := false

/-- The staged words of offsets 1–29 after POR (R136). -/
def ControlBlock.porParams : Vector Word 29 :=
  #v[0, 0, 0, 128, 512, 480, 0, 0, 16, 16, 0, 0, 8, 0, 0, 0, 0, 64, 64, 2, 8, 16, 32, 4, 1, 0, 0, 14, 0]

/-- The staged words of offsets 64–95 after POR (R136): the tone map, then the matrix. -/
def ControlBlock.porTables : Vector Word 32 :=
  #v[0, 1, 2, 3, 4, 5, 6, 7, 9, 10, 11, 12, 13, 14, 15, 16,
     0, 12, 3, 15, 8, 4, 11, 7, 2, 14, 1, 13, 10, 6, 9, 5]

/-- The control block after POR (R140, R149). -/
def ControlBlock.por : ControlBlock where
  params := ControlBlock.porParams
  tables := ControlBlock.porTables
  copyWords := Vector.replicate 10 0
  argument := 0
  checked := none
  clampSet := 0
  lastCode := 0
  lastOutcome := .none
  handOvers := []

/-- The report unit at the end of POR (R155). -/
def ReportUnit.por : ReportUnit where
  causes := 0
  quietArmed := false
  due := true
  block := .image
  writeCount := 0
  atn := false

/-- The part right after the end of power-on reset, with straps 0, SYSCLR negated, no bus cycle presented
and every fault input negated (assumption log 7). -/
def State.reset : State where
  pending := []
  dram := []
  dramEpoch := 0
  straps := 0
  por := false
  sysclr := false
  standing := ParamSet.por
  passage := Passage.por
  capture := CaptureList.por
  render := RenderStage.por
  queue := []
  stale := StaleSet.clear
  address := AddressStage.por
  glass := PanelGlass.unknown
  seq := Sequencer.por
  port := MemoryPort.por
  copy := CopyEngine.por
  control := ControlBlock.por
  report := ReportUnit.por

end Sys2Proof.Machine
end

