-- ==== Sys2Proof/Machine/Ops.lean ====
section
/-! DEFINITION. The named operations the rows share: lanes and words of DRAM, counters, requests to the
memory port, and the spans of memory. -/

namespace Sys2Proof.Machine

/-! ### Lanes -/

/-- The HIGH lane of a word (00_scope.md 1.8). -/
def highByte (w : Word) : Byte := w.extractLsb' 8 8

/-- The LOW lane of a word (00_scope.md 1.8). -/
def lowByte (w : Word) : Byte := w.extractLsb' 0 8

/-- The write carries the HIGH lane. -/
def Lanes.hasHigh : Lanes → Bool
  | .high | .both => true
  | .low => false

/-- The write carries the LOW lane. -/
def Lanes.hasLow : Lanes → Bool
  | .low | .both => true
  | .high => false

/-- The lanes the strobes UBS and LBS name; none when neither is asserted (R53). -/
def lanesOf (ubs lbs : Bool) : Option Lanes :=
  match ubs, lbs with
  | true, true => some .both
  | true, false => some .high
  | false, true => some .low
  | false, false => none

/-- `new` in the carried lanes and `old` in the other (R52, R139). -/
def mergeLanes (lanes : Lanes) (old new : Word) : Word :=
  (if lanes.hasHigh then highByte new else highByte old) ++
    (if lanes.hasLow then lowByte new else lowByte old)

/-- The data field of a capture record: the carried lanes, 0 in a lane not carried (R56). -/
def carriedData (lanes : Lanes) (data : Word) : Word := mergeLanes lanes 0 data

/-! ### DRAM -/

/-- The key of a byte lane: 2·address for HIGH, 2·address + 1 for LOW (assumption log 6). -/
def laneKey (a : Addr) (high : Bool) : Nat := 2 * a.toNat + (if high then 0 else 1)

/-- What an unlisted lane holds as data: no value (assumption log 5). -/
def Memory.get? : List Host.Cell → Nat → Option Byte
  | [], _ => none
  | (k, b) :: rest, key => if k = key then some b else Memory.get? rest key

/-- Store one byte, keeping the keys rising. -/
def Memory.set : List Host.Cell → Nat → Byte → List Host.Cell
  | [], key, b => [(key, b)]
  | (k, c) :: rest, key, b =>
    if key < k then (key, b) :: (k, c) :: rest
    else if key = k then (key, b) :: rest
    else (k, c) :: Memory.set rest key b

/-- The keys rise strictly from `low` on and stay below the end of DRAM. -/
def Memory.risesFrom : Nat → List Host.Cell → Bool
  | _, [] => true
  | low, (k, _) :: rest => decide (low ≤ k) && decide (k < 2 * Config.dramWords) && Memory.risesFrom (k + 1) rest

/-- The canonical form: keys strictly rising and inside DRAM. No value is that of an unlisted lane,
because an unlisted lane has none. -/
def Memory.wf (m : List Host.Cell) : Bool := Memory.risesFrom 0 m

/-- One lane of DRAM: the byte last written since power-on, or the free value (R31, R122; log 5). -/
def State.readLane (s : State) (a : Addr) (high : Bool) : Byte :=
  (Memory.get? s.dram (laneKey a high)).getD (Config.dramPowerOn s.dramEpoch (laneKey a high))

/-- The word as DRAM holds it (R114). -/
def State.readWord (s : State) (a : Addr) : Word := s.readLane a true ++ s.readLane a false

/-- Write the carried lanes of a word into a DRAM list (R52, R114). -/
def Memory.writeLanes (m : List Host.Cell) (a : Addr) (lanes : Lanes) (w : Word) : List Host.Cell :=
  let m := if lanes.hasHigh then Memory.set m (laneKey a true) (highByte w) else m
  if lanes.hasLow then Memory.set m (laneKey a false) (lowByte w) else m

/-- A word write: the carried lanes are written, the other lane is left (R52, R114). -/
def State.writeWord (s : State) (a : Addr) (lanes : Lanes) (w : Word) : State :=
  { s with dram := Memory.writeLanes s.dram a lanes w }

/-- Write consecutive words from word address `a` on, both lanes (R118, R119). -/
def State.writeBlock (s : State) : Nat → List Word → State
  | _, [] => s
  | a, w :: ws => State.writeBlock (s.writeWord (BitVec.ofNat 18 a) .both w) (a + 1) ws

/-! ### Counters and lists -/

/-- A 16-bit count that saturates (00_scope.md 1.8, R54, R63, R87). -/
def satAdd (c : Word) (n : Nat) : Word := BitVec.ofNat 16 (min 65535 (c.toNat + n))

/-- ceil(a / b) for b > 0 (R9). -/
def ceilDiv (a b : Nat) : Nat := (a + b - 1) / b

/-- Insert into an ascending list without repeats. -/
def insertAsc (n : Nat) : List Nat → List Nat
  | [] => [n]
  | m :: rest => if n < m then n :: m :: rest else if n = m then m :: rest else m :: insertAsc n rest

/-- Apply `f` to every entry, with its place counted from `i`. -/
def mapFrom {α : Type} (f : Nat → α → α) : Nat → List α → List α
  | _, [] => []
  | i, a :: as => f i a :: mapFrom f (i + 1) as

theorem mapFrom_length {α : Type} (f : Nat → α → α) (i : Nat) (l : List α) :
    (mapFrom f i l).length = l.length := by
  induction l generalizing i with
  | nil => rfl
  | cons a as ih => simp [mapFrom, ih]

/-- Apply `f` to every entry of a vector, with its place. -/
def mapPlaces {α : Type} {n : Nat} (f : Nat → α → α) (v : Vector α n) : Vector α n :=
  ⟨⟨mapFrom f 0 v.toList⟩, by simp [mapFrom_length]⟩

/-- Entry `i` of a vector, or `d` beyond its end. -/
def entry {α : Type} {n : Nat} (v : Vector α n) (i : Nat) (d : α) : α := v.toList.getD i d

/-! ### Spans of memory -/

/-- First word of the cell plane, C (R5). -/
def ParamSet.planeStart (p : ParamSet) : Nat := 16384 * p.planeBlock

/-- The word lies in the cell plane (R5, R52). -/
def ParamSet.inPlane (p : ParamSet) (a : Nat) : Bool :=
  decide (p.planeStart ≤ a) && decide (a ≤ p.planeStart + 16383)

/-- The word lies in the picture area (R2). -/
def ParamSet.inPicture (p : ParamSet) (a : Nat) : Bool :=
  decide (p.base ≤ a) && decide (a < p.base + p.height * p.pitch)

/-- First word of the control page for sampled straps `s` (R55, R135). -/
def controlPageStart (straps : BitVec 2) : Nat := 65280 + 65536 * straps.toNat

/-- The word lies in the control page (R55). -/
def inControlPage (straps : BitVec 2) (a : Nat) : Bool :=
  decide (controlPageStart straps ≤ a) && decide (a ≤ controlPageStart straps + 255)

/-- The spans [a, b] and [c, d] share a word (R17, R125). -/
def spansMeet (a b c d : Nat) : Bool := decide (a ≤ d) && decide (c ≤ b)

/-- The four kinds of write (R52). -/
inductive WriteKind where
  | plane
  | controlPage
  | picture
  | other
  deriving DecidableEq, Repr

/-- The kind of a write to word `a`, against the standing set and the straps (R52). -/
def State.classify (s : State) (a : Addr) : WriteKind :=
  if s.standing.inPlane a.toNat then .plane
  else if inControlPage s.straps a.toNat then .controlPage
  else if s.standing.inPicture a.toNat then .picture
  else .other

/-! ### Requests to the memory port -/

/-- The current grant ends; the port has no grant until the decision that this brings (R113). A request that the completion itself brings about for another party (a report block made
due, an access of a party given a place or let go, the work of an idle render stage) could by R113 be made on either side
of that decision: the model has it in the waiting set before it, its own choice (assumption log 33). -/
def State.endGrant (s : State) : State := { s with port := { s.port with current := none, deciding := true } }

/-- The passage asks for its passthrough access (R51, R115). -/
def State.askPassthrough (s : State) : State := { s with port := { s.port with passWaiting := true } }

/-- The render stage asks for an access (R43). -/
def State.askRender (s : State) (a : RenderAccess) : State :=
  { s with port := { s.port with renderWaiting := some a } }

/-- The copy engine asks for an access (R126). -/
def State.askCopy (s : State) (a : CopyAccess) : State :=
  { s with port := { s.port with copyWaiting := some a } }

/-- The current grant is an access of the render stage, its own or an abandoned one. -/
def MemoryPort.rendering (p : MemoryPort) : Bool :=
  match p.current with
  | some (.render _ _) => true
  | _ => false

/-- The render stage gives up its accesses: a waiting request is withdrawn, a granted one completes
for nobody (R46, R120). -/
def MemoryPort.dropRender (p : MemoryPort) : MemoryPort :=
  { p with
    renderWaiting := none
    current := match p.current with
      | some (.render a _) => some (.render a false)
      | g => g }

/-- The copy engine gives up its accesses (R121, R134). -/
def MemoryPort.dropCopy (p : MemoryPort) : MemoryPort :=
  { p with
    copyWaiting := none
    current := match p.current with
      | some (.copy a _) => some (.copy a false)
      | g => g }

/-! ### Places of the capture list -/

/-- A place is free (R57). -/
def CaptureList.hasFree (c : CaptureList) : Bool :=
  decide (c.records.length + c.reservations < Config.capturePlaces)

/-- Reserve a place (R58). -/
def CaptureList.reserve (c : CaptureList) : CaptureList := { c with reservations := c.reservations + 1 }

/-- Release the reservation of a write that held one (R57). -/
def CaptureList.release (c : CaptureList) (d : GuardDecision) : CaptureList :=
  match d with
  | .placed => { c with reservations := c.reservations - 1 }
  | .unplaced | .held | .expired => c

/-- A record joins the tail (R57). -/
def CaptureList.join (c : CaptureList) (r : CaptureRecord) : CaptureList :=
  { c with records := c.records ++ [r] }

/-- The write needs a place: LIT, at least one lane, and a word of the picture area (R58). -/
def State.needsPlace (s : State) (a : Addr) (lanes : Option Lanes) : Bool :=
  decide (s.seq.panel = .lit) && lanes.isSome && s.standing.inPicture a.toNat

/-! ### Marks of the stale set -/

/-- Line `l` of the stale set. -/
def StaleSet.line (t : StaleSet) (l : Nat) : StaleLine := entry t.lines l ⟨false, 0⟩

/-- A mark of the lines that `p` names, each with the hold `depth` (R68). -/
def StaleSet.mark (t : StaleSet) (p : Nat → Bool) (depth : Nat) : StaleSet :=
  { t with lines := mapPlaces (fun l x => if p l then ⟨true, depth⟩ else x) t.lines }

/-- A CAPTURE take lowers every hold above 0 by one (R69). -/
def StaleSet.lowerHolds (t : StaleSet) : StaleSet :=
  { t with lines := mapPlaces (fun _ x => { x with hold := x.hold - 1 }) t.lines }

/-- Every hold becomes 0 (R69). -/
def StaleSet.dropHolds (t : StaleSet) : StaleSet :=
  { t with lines := mapPlaces (fun _ x => { x with hold := 0 }) t.lines }

/-- The stale set at an entry to CLEARING: all flags set, holds 0, position line 0, word 0 (R75). -/
def StaleSet.allSet : StaleSet where
  lines := Vector.replicate 512 ⟨true, 0⟩
  posLine := 0
  posWord := 0

/-- The stale line count: the number of set flags (R67). -/
def StaleSet.count (t : StaleSet) : Nat := t.lines.toList.countP (fun x => x.stale)

/-- No flag is set and no line is in hand (R67). -/
def StaleSet.isEmpty (t : StaleSet) : Bool :=
  decide (t.posWord = 0) && t.lines.toList.all (fun x => !x.stale)

/-- The first line from place `i` on whose flag is set and whose hold is 0 (R70). -/
def firstServable : Nat → List StaleLine → Option Nat
  | _, [] => none
  | i, x :: rest => if x.stale && decide (x.hold = 0) then some i else firstServable (i + 1) rest

/-- The cell word the stale set offers (R70). -/
def StaleSet.offer (t : StaleSet) : Option CellWord :=
  if t.posWord ≠ 0 then some ⟨t.posLine, t.posWord⟩
  else
    ((firstServable t.posLine (t.lines.toList.drop t.posLine)).or
      (firstServable 0 (t.lines.toList.take t.posLine))).map fun l => ⟨l, 0⟩

/-- The stale set moves on at the take of a RESWEEP item for `c` (R71). -/
def StaleSet.takeWord (t : StaleSet) (c : CellWord) : StaleSet :=
  { lines :=
      if c.index = 0 then mapPlaces (fun l x => if l = c.line then { x with stale := false } else x) t.lines
      else t.lines
    posLine := if c.index = 31 then (c.line + 1) % 512 else c.line
    posWord := if c.index = 31 then 0 else c.index + 1 }

/-! ### The change queue -/

/-- The order names the cell. -/
def CellOrder.isAt (o : CellOrder) (column line : Nat) : Bool :=
  decide (o.column = column) && decide (o.line = line)

/-- The kind of a new order for new plane bit `bit` (R35). -/
def kindOf (bit : Bool) : OrderKind := if bit then .light else .quench

/-- A change arrival: it removes the order waiting for the cell, or a new order joins the tail (R35). -/
def changeArrival (q : List CellOrder) (column line : Nat) (bit : Bool) : List CellOrder :=
  if q.any (fun o => o.isAt column line) then q.eraseP (fun o => o.isAt column line)
  else q ++ [⟨column, line, kindOf bit⟩]

/-! ### The glass -/

/-- The number of a cell. -/
def cellNumber (column line : Nat) : Nat := 512 * line + column

/-- What cell (column, line) shows: lit, dark, or not known. -/
def PanelGlass.shows (g : PanelGlass) (column line : Nat) : Option Bool :=
  if g.known then some (g.litCells.contains (cellNumber column line)) else none

/-- The account at a take (R36, R92): a LIGHT burst lights its cells, a QUENCH burst darkens them. -/
def PanelGlass.applyBurst (g : PanelGlass) (line : Nat) (kind : OrderKind) (columns : List Nat) : PanelGlass :=
  match kind with
  | .light => { g with litCells := columns.foldl (fun m c => insertAsc (cellNumber c line) m) g.litCells }
  | .quench =>
    { g with litCells := g.litCells.filter (fun n => !(columns.any (fun c => n == cellNumber c line))) }

/-- The account at a global erase: every cell is dark (R94). -/
def PanelGlass.erased : PanelGlass where
  known := true
  litCells := []

end Sys2Proof.Machine
end

