-- ==== Sys2Proof/Machine/Operands.lean ====
section
/-! DEFINITION. Picture geometry (chapter 1) and the target dot (chapter 2): from cells to pixels, from
picture words to cells, and from pixel values to dots. Pure functions of one parameter set (R13). -/

namespace Sys2Proof.Machine

/-! ### Picture words -/

/-- n, the pixels of a word (R1). -/
def PixelFormat.perWord : PixelFormat → Nat
  | .tone4 => 4
  | .dot1 => 16

/-- The pixel value at position `k` of a word (R3). -/
def pixelAt (f : PixelFormat) (w : Word) (k : Nat) : Nat :=
  match f with
  | .tone4 => (w.toNat / 2 ^ (12 - 4 * k)) % 16
  | .dot1 => (w.toNat / 2 ^ (15 - k)) % 2

/-- The first and last positions a write's lanes carry (R4). -/
def carriedPositions (f : PixelFormat) : Lanes → Nat × Nat
  | .high => (0, f.perWord / 2 - 1)
  | .low => (f.perWord / 2, f.perWord - 1)
  | .both => (0, f.perWord - 1)

/-- The carried pixels of a write to word `w` of a row, as their first and last column (R4). -/
def ParamSet.carriedRun (p : ParamSet) (w : Nat) (lanes : Lanes) : Option (Nat × Nat) :=
  let n := p.format.perWord
  let k := carriedPositions p.format lanes
  if n * w + k.1 < p.width then some (n * w + k.1, min (n * w + k.2) (p.width - 1)) else none

/-- The row and the word index of a word of the picture area (R11 steps 1 and 2). -/
def ParamSet.locate (p : ParamSet) (a : Addr) : Option (Nat × Nat) :=
  if p.inPicture a.toNat then some ((a.toNat - p.base) / p.pitch, (a.toNat - p.base) % p.pitch) else none

/-! ### Inverse mapping -/

/-- The columns (or lines) of the panel that sample some pixel of the run x0 to x1, as their first and
last (R9, R10): pixels before the origin are dropped, the rest map to one range clipped at 511. -/
def inverseRange (origin step x0 x1 : Nat) : Option (Nat × Nat) :=
  if x1 < origin then none
  else
    let lo := ceilDiv (16 * (x0 - origin)) step
    let hi := min 512 (ceilDiv (16 * (x1 - origin + 1)) step)
    if lo < hi then some (lo, hi - 1) else none

/-- A cell rectangle: first and last line, first and last column (R11). -/
structure Rect where
  line0 : Nat
  line1 : Nat
  column0 : Nat
  column1 : Nat
  deriving DecidableEq, Repr

/-- The cell rectangle of a capture record (R11); none when it is empty. -/
def ParamSet.rectangle (p : ParamSet) (r : CaptureRecord) : Option Rect :=
  (p.locate r.address).bind fun rw =>
    (p.carriedRun rw.2 r.lanes).bind fun run =>
      (inverseRange p.originY p.stepY rw.1 rw.1).bind fun ls =>
        (inverseRange p.originX p.stepX run.1 run.2).map fun cs => ⟨ls.1, ls.2, cs.1, cs.2⟩

/-- The lines an overflowed write marks (R12). -/
def ParamSet.overflowLines (p : ParamSet) (a : Addr) (lanes : Lanes) : Option (Nat × Nat) :=
  (p.locate a).bind fun rw =>
    (p.carriedRun rw.2 lanes).bind fun _ => inverseRange p.originY p.stepY rw.1 rw.1

/-- first, first + 1, …, last. -/
def spanList (first last : Nat) : List Nat := (List.range (last + 1 - first)).map (first + ·)

/-- The cell words of a rectangle, line by line and by ascending word index (R44). -/
def Rect.cellWords (r : Rect) : List CellWord :=
  (spanList r.line0 r.line1).flatMap fun l =>
    (spanList (r.column0 / 16) (r.column1 / 16)).map fun j => ⟨l, j⟩

/-! ### Forward mapping -/

/-- The pixel column that panel column `cx` samples (R7). -/
def ParamSet.sampleX (p : ParamSet) (cx : Nat) : Nat := p.originX + cx * p.stepX / 16

/-- The pixel row that panel line `cy` samples (R7). -/
def ParamSet.sampleY (p : ParamSet) (cy : Nat) : Nat := p.originY + cy * p.stepY / 16

/-- The cell is a margin cell (R7). -/
def ParamSet.isMargin (p : ParamSet) (cx cy : Nat) : Bool :=
  decide (p.width ≤ p.sampleX cx) || decide (p.height ≤ p.sampleY cy)

/-- The word that holds the pixel a cell samples (R3, R7). -/
def ParamSet.sampledWord (p : ParamSet) (cx cy : Nat) : Nat :=
  p.base + p.sampleY cy * p.pitch + p.sampleX cx / p.format.perWord

/-- The word address of a cell word (R5). -/
def ParamSet.cellAddress (p : ParamSet) (c : CellWord) : Addr :=
  BitVec.ofNat 18 (p.planeStart + 32 * c.line + c.index)

/-- The sixteen columns of a cell word (R5). -/
def CellWord.columns (c : CellWord) : List Nat := (List.range 16).map (16 * c.index + ·)

/-- The distinct picture words a cell word samples, in ascending address order (R8, R45). -/
def ParamSet.sampledWords (p : ParamSet) (c : CellWord) : List Addr :=
  (((c.columns.filter fun cx => !p.isMargin cx c.line).map fun cx => p.sampledWord cx c.line).foldr
    insertAsc []).map (BitVec.ofNat 18)

/-! ### Level, dot and target -/

/-- The level of a sampled pixel value (R19). -/
def ParamSet.level (p : ParamSet) (value : Nat) : Nat :=
  match p.format with
  | .tone4 => entry p.toneMap value 0
  | .dot1 => if value = 0 then entry p.toneMap 0 0 else entry p.toneMap 15 0

/-- The dot of a cell with level `level` (R22, R23). -/
def ParamSet.dot (p : ParamSet) (cx cy level : Nat) : Bool :=
  match p.ditherMode with
  | .ordered => decide (entry p.matrix (4 * (cy % 4) + cx % 4) 0 < level)
  | .fixed => decide (p.fixedThreshold < level)

/-- The line lies in the horizontal bar (R24). -/
def ParamSet.inBarH (p : ParamSet) (cy : Nat) : Bool :=
  decide (p.cursorLine ≤ cy) && decide (cy < p.cursorLine + p.thicknessH)

/-- The column lies in the vertical bar (R24). -/
def ParamSet.inBarV (p : ParamSet) (cx : Nat) : Bool :=
  decide (p.cursorColumn ≤ cx) && decide (cx < p.cursorColumn + p.thicknessV)

/-- The cell is in the cursor (R25). -/
def ParamSet.inCursor (p : ParamSet) (cx cy : Nat) : Bool := p.inBarH cy || p.inBarV cx

/-- The target dot of a cell whose sampled pixel has value `value`; a margin cell takes the margin
level whatever the value (R26). -/
def ParamSet.target (p : ParamSet) (cx cy value : Nat) : Bool :=
  (p.dot cx cy (if p.isMargin cx cy then p.margin else p.level value)).xor (p.inCursor cx cy)

/-- The pixel value a cell samples, taken from the word that holds the pixel (R3, R27). -/
def ParamSet.valueFrom (p : ParamSet) (cx : Nat) (w : Word) : Nat :=
  pixelAt p.format w (p.sampleX cx % p.format.perWord)

/-- The place of a column's bit in a cell word (R3, R5). -/
def cellBit (cx : Nat) : Nat := 15 - cx % 16

/-- The bit of a cell word for column `cx`. -/
def cellBitOf (w : Word) (cx : Nat) : Bool := w.getLsbD (cellBit cx)

/-- A cell word with the bit of column `cx` set to `bit`. -/
def withCellBit (w : Word) (cx : Nat) (bit : Bool) : Word :=
  if bit then w ||| (1#16 <<< cellBit cx) else w &&& ~~~(1#16 <<< cellBit cx)

/-- The picture word at address `a` among those a RESWEEP item has read; 0 where it read none. -/
def wordRead (got : List (Addr × Word)) (a : Addr) : Word := ((got.find? fun x => x.1 == a).map (·.2)).getD 0

/-- The evaluated cells of a cell word with their targets, in ascending column order: the cells of the
rectangle from the record's data for a CAPTURE item, all sixteen from the words read for a RESWEEP item,
none for a WIPE item (R27, R43). -/
def RenderItem.targets (p : ParamSet) : RenderItem → List (Nat × Bool)
  | .capture record cell _ _ =>
    match p.rectangle record with
    | none => []
    | some r =>
      (cell.columns.filter fun cx => decide (r.column0 ≤ cx) && decide (cx ≤ r.column1)).map fun cx =>
        (cx, p.target cx cell.line (p.valueFrom cx record.data))
  | .resweep cell got _ _ =>
    cell.columns.map fun cx =>
      (cx, p.target cx cell.line (p.valueFrom cx (wordRead got (BitVec.ofNat 18 (p.sampledWord cx cell.line)))))
  | .wipe _ => []

/-- Compare targets with the working copy in ascending column order; each difference sends a change
arrival and sets the working-copy bit (R43 step 3). -/
def compareTargets (line : Nat) : List (Nat × Bool) → List CellOrder → Word → List CellOrder × Word
  | [], q, w => (q, w)
  | (cx, t) :: rest, q, w =>
    if cellBitOf w cx = t then compareTargets line rest q w
    else compareTargets line rest (changeArrival q cx line t) (withCellBit w cx t)

end Sys2Proof.Machine
end

