-- ==== Sys2Proof/Machine/Flags.lean ====
section
/-! DEFINITION. Causes, attention, reports due, the fault set, group sets and the codes of R138: every
flag the rows set or clear, each in one operation. -/

namespace Sys2Proof.Machine

/-! ### Bits and codes of R138 -/

/-- The attention causes (R150). -/
inductive Cause where
  | quiet
  | copyEnd
  | fault
  | overflow
  | refused
  | lit
  deriving DecidableEq, Repr

/-- The bit of a cause (R138). -/
def Cause.bit : Cause → BitVec 6
  | .quiet => 1
  | .copyEnd => 2
  | .fault => 4
  | .overflow => 8
  | .refused => 16
  | .lit => 32

/-- The fault kinds (R109). -/
inductive FaultKind where
  | hvLow
  | hvOvercurrent
  | chargeTimeout
  | groupFault
  | recoveryLimit
  | noGroups
  deriving DecidableEq, Repr

/-- The bit of a fault kind (R138). -/
def FaultKind.bit : FaultKind → BitVec 6
  | .hvLow => 1
  | .hvOvercurrent => 2
  | .chargeTimeout => 4
  | .groupFault => 8
  | .recoveryLimit => 16
  | .noGroups => 32

/-- The clamp groups (R138). -/
inductive ClampGroup where
  | picture
  | viewport
  | tone
  | dither
  | cursor
  | sustain
  | pulse
  | other
  deriving DecidableEq, Repr

/-- The bit of a clamp group (R138). -/
def ClampGroup.bit : ClampGroup → Byte
  | .picture => 1
  | .viewport => 2
  | .tone => 4
  | .dither => 8
  | .cursor => 16
  | .sustain => 32
  | .pulse => 64
  | .other => 128

/-- The sequencer state code (R138). -/
def PanelState.code : PanelState → Byte
  | .dark => 0
  | .charging => 1
  | .clearing => 2
  | .lit => 3
  | .resting => 4
  | .barred => 5

/-- The command outcome code (R138). -/
def CommandOutcome.code : CommandOutcome → Byte
  | .none => 0
  | .done => 1
  | .busy => 2
  | .wrongState => 3
  | .range => 4
  | .unknown => 5

/-- The copy outcome code (R138). -/
def CopyOutcome.code : CopyOutcome → Byte
  | .none => 0
  | .active => 1
  | .done => 2
  | .cancelled => 3
  | .aborted => 4
  | .guarded => 5

/-! ### Attention and reports due -/

/-- ATN decided again: asserted exactly when some pending cause is also enabled (R152). -/
def State.decideAtn (s : State) : State :=
  { s with report := { s.report with atn := decide (s.report.causes &&& s.standing.enables ≠ 0) } }

/-- A report becomes due: the flag is set and, when the block state is IDLE, a block is asked for (R153). -/
def State.reportDue (s : State) : State :=
  { s with
    report := { s.report with
      due := true
      block := match s.report.block with
        | .idle => .waiting
        | b => b }
    port := { s.port with
      reportWaiting := match s.report.block with
        | .idle => some .block
        | _ => s.port.reportWaiting } }

/-- A cause enters the pending cause set: ATN is decided again and a report becomes due (R150, R153). -/
def State.enterCause (s : State) (c : Cause) : State :=
  ({ s with report := { s.report with causes := s.report.causes ||| c.bit } } : State).decideAtn.reportDue

/-- A fault kind enters the fault set, and FAULT the pending cause set (R109). -/
def State.enterFault (s : State) (k : FaultKind) : State :=
  ({ s with seq := { s.seq with faults := s.seq.faults ||| k.bit } } : State).enterCause .fault

/-- The QUIET condition (R151). The render stage is idle when it holds no item and no commit waits for
it (an idle render stage applies a waiting commit at once, R41; assumption log 18). -/
def State.quietHolds (s : State) : Bool :=
  decide (s.seq.panel = .lit) && s.report.quietArmed && s.capture.records.isEmpty &&
    decide (s.capture.reservations = 0) && s.stale.isEmpty && s.queue.isEmpty &&
    s.render.item.isNone && s.control.checked.isNone

/-- QUIET enters the pending cause set at the event that makes its condition true (R151). -/
def State.quietCheck (s : State) : State :=
  if s.quietHolds then
    ({ s with report := { s.report with quietArmed := false } } : State).enterCause .quiet
  else s

/-- The render stage in LIT has nothing to take and goes idle: the consecutive-capture count is 0
(R40, last row of the table). -/
def State.idleCount (s : State) : State :=
  if s.seq.panel = .lit ∧ s.render.item = none ∧ s.control.checked = none ∧ s.capture.records = [] ∧
      s.stale.offer = none then
    { s with render := { s.render with captureCount := 0 } }
  else s

/-- What every event ends with: the idle count of R40 and the QUIET condition of R151; nothing while POR is
asserted (R155). -/
def State.afterEvent (s : State) : State := if s.por then s else s.idleCount.quietCheck

/-! ### Driver groups and fault inputs -/

/-- The mask of an axis (R108). -/
def ParamSet.mask (p : ParamSet) : Axis → Byte
  | .x => p.maskX
  | .y => p.maskY

/-- The out-of-service set of an axis (R95). -/
def Sequencer.outSet (q : Sequencer) : Axis → Byte
  | .x => q.outX
  | .y => q.outY

/-- The one-strike set of an axis (R95). -/
def Sequencer.strikeSet (q : Sequencer) : Axis → Byte
  | .x => q.strikeX
  | .y => q.strikeY

/-- The fault input levels of an axis (R106). -/
def Sequencer.inputs (q : Sequencer) : Axis → Byte
  | .x => q.gfx
  | .y => q.gfy

/-- The debounce timer of a group's input (R95). -/
def Sequencer.groupTimer (q : Sequencer) : Axis → Nat → Timer
  | .x, g => entry q.debounceX g none
  | .y, g => entry q.debounceY g none

/-- The sequencer with the debounce timer of a group's input set to `t`. -/
def Sequencer.setGroupTimer (q : Sequencer) (axis : Axis) (g : Nat) (t : Timer) : Sequencer :=
  match axis with
  | .x => { q with debounceX := q.debounceX.setIfInBounds g t }
  | .y => { q with debounceY := q.debounceY.setIfInBounds g t }

/-- Bit `g` set in a byte. -/
def withBit (b : Byte) (g : Nat) (on : Bool) : Byte :=
  if on then b ||| (1#8 <<< g) else b &&& ~~~(1#8 <<< g)

/-- The panel is in a state where losses and group faults are live (R106). -/
def PanelState.addressed : PanelState → Bool
  | .clearing | .lit => true
  | .dark | .charging | .resting | .barred => false

/-- HVEN is on in CHARGING, CLEARING and LIT (R95). -/
def PanelState.powered : PanelState → Bool
  | .charging | .clearing | .lit => true
  | .dark | .resting | .barred => false

/-- A group is in service and unmasked (R106, R108). -/
def Sequencer.groupWatched (q : Sequencer) (p : ParamSet) (axis : Axis) (g : Nat) : Bool :=
  decide (g < 8) && !(p.mask axis).getLsbD g && !(q.outSet axis).getLsbD g

/-- A group's fault input is live (R106). -/
def Sequencer.groupLive (q : Sequencer) (p : ParamSet) (axis : Axis) (g : Nat) : Bool :=
  q.panel.addressed && q.groupWatched p axis g

/-- The input of some unmasked, in-service group is asserted (R110). -/
def Sequencer.someGroupFault (q : Sequencer) (p : ParamSet) : Bool :=
  (List.range 8).any fun g =>
    (q.groupWatched p .x g && q.gfx.getLsbD g) || (q.groupWatched p .y g && q.gfy.getLsbD g)

/-- Every X group, or every Y group, is out of service (R103, R110). -/
def Sequencer.axisOut (q : Sequencer) : Bool := decide (q.outX = 255#8) || decide (q.outY = 255#8)

/-- A cell lies in an out-of-service driver group (R87). -/
def Sequencer.cellOut (q : Sequencer) (column line : Nat) : Bool :=
  q.outX.getLsbD (column / 64) || q.outY.getLsbD (line / 64)

/-- The debounce time, in microseconds (R107). -/
def debounceMicros : Nat → Nat
  | 0 => 0
  | 1 => 2
  | 2 => 32
  | _ => 500

/-- The debounce timer of an input that becomes live, or is live and takes a level (R106): started when
the input is at its active level. -/
def startDebounce (p : ParamSet) (active : Bool) : Timer :=
  if active then some (debounceMicros p.debounce) else none

/-- The interval of a ramp select, in microseconds; none for ramp select 0 (R83). -/
def tickInterval : Nat → Timer
  | 0 => none
  | 1 => some 500
  | 2 => some 1000
  | 3 => some 2000
  | _ => some 4000

/-- The timers of an axis when its groups become live (R106). -/
def Sequencer.liveTimers (q : Sequencer) (p : ParamSet) (axis : Axis) : Vector Timer 8 :=
  Vector.ofFn fun g : Fin 8 =>
    startDebounce p (q.groupWatched p axis g.val && (q.inputs axis).getLsbD g.val)

/-! ### Output pins computed from the state -/

/-- SUSA is driven throughout each phase A while the sustain runs (R80). -/
def State.susA (s : State) : Bool := s.address.running && decide (s.address.phase = .a)

/-- SUSB is driven throughout each phase B while the sustain runs (R80). -/
def State.susB (s : State) : Bool := s.address.running && decide (s.address.phase = .b)

/-- The line select bus: driven from the slot until the pulse of a burst ends (R92). -/
def State.lineSelect (s : State) : Option Nat :=
  match s.address.pulse with
  | some ⟨.burst line _ _, _, _, _⟩ => some line
  | _ => none

/-- The column select bus (R92). -/
def State.columnSelect (s : State) : List Nat :=
  match s.address.pulse with
  | some ⟨.burst _ _ columns, _, _, _⟩ => columns
  | _ => []

/-- The write strobe: the pulse of a LIGHT burst (R92). -/
def State.writeStrobe (s : State) : Bool :=
  match s.address.pulse with
  | some ⟨.burst _ .light _, _, _, on⟩ => on
  | _ => false

/-- The erase strobe: the pulse of a QUENCH burst (R92). -/
def State.eraseStrobe (s : State) : Bool :=
  match s.address.pulse with
  | some ⟨.burst _ .quench _, _, _, on⟩ => on
  | _ => false

/-- The global-erase strobe (R94). -/
def State.globalEraseStrobe (s : State) : Bool :=
  match s.address.pulse with
  | some ⟨.globalErase, _, _, on⟩ => on
  | _ => false

end Sys2Proof.Machine
end

