-- ==== Sys2Proof/Machine/Params.lean ====
section
/-! DEFINITION. The staged words, the candidate set a COMMIT forms and its checks (R14–R17, R28–R30, R141,
R142, 10.4.1), and the copy request a START COPY forms (R123, R125). -/

namespace Sys2Proof.Machine

/-! ### Staged words -/

/-- The staged word at offset `o`, as an unsigned number (R139, section 2.5). -/
def ControlBlock.staged (c : ControlBlock) (o : Nat) : Nat :=
  if o < 64 then (entry c.params (o - 1) 0).toNat else (entry c.tables (o - 64) 0).toNat

/-- The copy-request word at offset `o` (R139). -/
def ControlBlock.copyWord (c : ControlBlock) (o : Nat) : Word := entry c.copyWords (o - 96) 0

/-- The carried lanes of a hand-over latched by its offset; offsets 0, 30–63 and 106–255 are not latched
here (R139). -/
def ControlBlock.latch (c : ControlBlock) (h : HandOver) : ControlBlock :=
  if 1 ≤ h.offset ∧ h.offset ≤ 29 then
    { c with
      params :=
        c.params.setIfInBounds (h.offset - 1) (mergeLanes h.lanes (entry c.params (h.offset - 1) 0) h.data) }
  else if 64 ≤ h.offset ∧ h.offset ≤ 95 then
    { c with
      tables :=
        c.tables.setIfInBounds (h.offset - 64) (mergeLanes h.lanes (entry c.tables (h.offset - 64) 0) h.data) }
  else if 96 ≤ h.offset ∧ h.offset ≤ 105 then
    { c with
      copyWords :=
        c.copyWords.setIfInBounds (h.offset - 96) (mergeLanes h.lanes (entry c.copyWords (h.offset - 96) 0) h.data) }
  else c

/-! ### Step 1: field clamps -/

/-- A number brought into lo–hi. -/
def clampTo (lo hi v : Nat) : Nat := max lo (min hi v)

/-- The candidate after the first step: every field in its range (R14, R28–R30, R61, R84, R89, R90, R107,
R108, R142, R152). -/
def ControlBlock.clamped (c : ControlBlock) : ParamSet where
  base := min 262143 (c.staged 1 + 65536 * c.staged 2)
  format := if c.staged 3 = 0 then .tone4 else .dot1
  pitch := clampTo 1 1024 (c.staged 4)
  width := clampTo 1 2048 (c.staged 5)
  height := clampTo 1 2048 (c.staged 6)
  originX := min 2047 (c.staged 7)
  originY := min 2047 (c.staged 8)
  stepX := clampTo 4 64 (c.staged 9)
  stepY := clampTo 4 64 (c.staged 10)
  margin := min 16 (c.staged 11)
  toneMap := Vector.ofFn fun t : Fin 16 => min 16 (c.staged (64 + t.val))
  ditherMode := if c.staged 12 = 0 then .ordered else .fixed
  fixedThreshold := min 15 (c.staged 13)
  matrix := Vector.ofFn fun i : Fin 16 => min 15 (c.staged (80 + i.val))
  cursorLine := min 511 (c.staged 14)
  thicknessH := min 15 (c.staged 15)
  cursorColumn := min 511 (c.staged 16)
  thicknessV := min 15 (c.staged 17)
  phaseA := clampTo 32 128 (c.staged 18)
  phaseB := clampTo 32 128 (c.staged 19)
  rampSelect := min 4 (c.staged 20)
  addressDelay := clampTo 4 24 (c.staged 21)
  addressWidth := clampTo 8 32 (c.staged 22)
  gatherWindow := clampTo 1 32 (c.staged 23)
  stallLimit := min 15 (c.staged 24)
  debounce := min 3 (c.staged 25)
  maskX := BitVec.ofNat 8 (c.staged 26)
  maskY := BitVec.ofNat 8 (c.staged 27)
  planeBlock := min 15 (c.staged 28)
  enables := BitVec.ofNat 6 (c.staged 29)

/-- The staged value at offset `o` lies outside lo–hi. -/
def ControlBlock.outside (c : ControlBlock) (o lo hi : Nat) : Bool :=
  decide (c.staged o < lo) || decide (hi < c.staged o)

/-- The first step changed a field of the group (10.4.1). -/
def ControlBlock.clamps (c : ControlBlock) : ClampGroup → Bool
  | .picture =>
    decide (262143 < c.staged 1 + 65536 * c.staged 2) || c.outside 3 0 1 || c.outside 4 1 1024 ||
      c.outside 5 1 2048 || c.outside 6 1 2048
  | .viewport => c.outside 7 0 2047 || c.outside 8 0 2047 || c.outside 9 4 64 || c.outside 10 4 64
  | .tone => c.outside 11 0 16 || (List.range 16).any fun t => c.outside (64 + t) 0 16
  | .dither =>
    c.outside 12 0 1 || c.outside 13 0 15 || (List.range 16).any fun i => c.outside (80 + i) 0 15
  | .cursor => c.outside 14 0 511 || c.outside 15 0 15 || c.outside 16 0 511 || c.outside 17 0 15
  | .sustain => c.outside 18 32 128 || c.outside 19 32 128 || c.outside 20 0 4
  | .pulse => c.outside 21 4 24 || c.outside 22 8 32
  | .other => c.outside 23 1 32 || c.outside 24 0 15 || c.outside 25 0 3 || c.outside 28 0 15

/-- The clamp set of the first step (R141). -/
def ControlBlock.clampBits (c : ControlBlock) : Byte :=
  [ClampGroup.picture, .viewport, .tone, .dither, .cursor, .sustain, .pulse, .other].foldl
    (fun b g => if c.clamps g then b ||| g.bit else b) 0

/-! ### Steps 2 to 4 -/

/-- Step 2: the width against the pitch (R15). -/
def ParamSet.fitWidth (p : ParamSet) : ParamSet :=
  { p with width := min p.width (p.pitch * p.format.perWord) }

/-- The height against memory is too large (R16). -/
def ParamSet.tooTall (p : ParamSet) : Bool := decide (262144 < p.base + p.height * p.pitch)

/-- Step 3: the height against memory (R16). -/
def ParamSet.fitHeight (p : ParamSet) : ParamSet :=
  if p.tooTall then { p with height := (262144 - p.base) / p.pitch } else p

/-- The picture area, the cell plane and the control page: two of the three share a word (R17). -/
def ParamSet.overlaps (p : ParamSet) (straps : BitVec 2) : Bool :=
  let pic0 := p.base
  let pic1 := p.base + p.height * p.pitch - 1
  let pl0 := p.planeStart
  let pl1 := p.planeStart + 16383
  let cp0 := controlPageStart straps
  let cp1 := controlPageStart straps + 255
  spansMeet pic0 pic1 pl0 pl1 || spansMeet pic0 pic1 cp0 cp1 || spansMeet pl0 pl1 cp0 cp1

/-- The candidate after steps 1 to 3. -/
def ControlBlock.candidate (c : ControlBlock) : ParamSet := c.clamped.fitWidth.fitHeight

/-- The clamp set of the checks: step 1's groups, and PICTURE when step 2 or 3 changed a field (R15, R16, R141). -/
def ControlBlock.candidateClamps (c : ControlBlock) : Byte :=
  if decide (c.clamped.fitWidth.width ≠ c.clamped.width) || c.clamped.fitWidth.tooTall then
    c.clampBits ||| ClampGroup.picture.bit
  else c.clampBits

/-- The checks of a COMMIT pass: the height is not 0 (R16) and no two spans meet (R17). -/
def ControlBlock.candidatePasses (c : ControlBlock) (straps : BitVec 2) : Bool :=
  decide (c.candidate.height ≠ 0) && !c.candidate.overlaps straps

/-! ### What a commit changed -/

/-- A field whose change marks all 512 lines differs (R73). -/
def ParamSet.marksAll (old new : ParamSet) : Bool :=
  !(decide (old.base = new.base) && decide (old.format = new.format) && decide (old.pitch = new.pitch) &&
    decide (old.width = new.width) && decide (old.height = new.height) &&
    decide (old.originX = new.originX) && decide (old.originY = new.originY) &&
    decide (old.stepX = new.stepX) && decide (old.stepY = new.stepY) && decide (old.margin = new.margin) &&
    decide (old.ditherMode = new.ditherMode) && decide (old.fixedThreshold = new.fixedThreshold) &&
    decide (old.matrix = new.matrix) && decide (old.toneMap = new.toneMap) &&
    decide (old.cursorColumn = new.cursorColumn) && decide (old.thicknessV = new.thicknessV))

/-- The cursor line or the horizontal thickness differs (R73). -/
def ParamSet.movesBarH (old new : ParamSet) : Bool :=
  !(decide (old.cursorLine = new.cursorLine) && decide (old.thicknessH = new.thicknessH))

/-- The lines an applied commit marks (R73). -/
def ParamSet.commitMarks (old new : ParamSet) (l : Nat) : Bool :=
  old.marksAll new || (old.movesBarH new && (old.inBarH l || new.inBarH l))

/-! ### Copy requests -/

/-- The copy request formed from the copy-request words, each field in its range (R123). -/
def ControlBlock.copyRequest (c : ControlBlock) : CopyRequest where
  mode := if c.copyWord 96 = 0 then .copy else .fill
  source := min 262143 ((c.copyWord 97).toNat + 65536 * (c.copyWord 98).toNat)
  sourcePitch := min 1023 (c.copyWord 99).toNat
  dest := min 262143 ((c.copyWord 100).toNat + 65536 * (c.copyWord 101).toNat)
  destPitch := clampTo 1 1024 (c.copyWord 102).toNat
  words := min 255 (c.copyWord 103).toNat + 1
  rows := min 1023 (c.copyWord 104).toNat + 1
  fill := c.copyWord 105

/-- The last source word (R125). -/
def CopyRequest.sourceEnd (r : CopyRequest) : Nat := r.source + (r.rows - 1) * r.sourcePitch + r.words - 1

/-- The last destination word (R125). -/
def CopyRequest.destEnd (r : CopyRequest) : Nat := r.dest + (r.rows - 1) * r.destPitch + r.words - 1

/-- The four checks of START COPY pass (R125). -/
def CopyRequest.passes (r : CopyRequest) (p : ParamSet) (straps : BitVec 2) : Bool :=
  (decide (r.mode = .fill) || decide (r.sourceEnd ≤ 262143)) && decide (r.destEnd ≤ 262143) &&
    !spansMeet r.dest r.destEnd p.planeStart (p.planeStart + 16383) &&
    !spansMeet r.dest r.destEnd (controlPageStart straps) (controlPageStart straps + 255)

/-- The source address of word `i` of row `r` (R123). -/
def CopyRequest.sourceAt (q : CopyRequest) (r i : Nat) : Addr :=
  BitVec.ofNat 18 (q.source + r * q.sourcePitch + i)

/-- The destination address of word `i` of row `r` (R123). -/
def CopyRequest.destAt (q : CopyRequest) (r i : Nat) : Addr := BitVec.ofNat 18 (q.dest + r * q.destPitch + i)

end Sys2Proof.Machine
end

