-- ==== Sys2Proof/Machine/Sequence.lean ====
section
/-! DEFINITION. The entries to the panel states, and what every block does at them: emptying the work
(R37, R46, R57, R64, R69), starting and stopping the sustain (R81), CLEARING and soft restart (R98, R101),
LIT (R100), recovery (R102) and DARK (R105, R111). -/

namespace Sys2Proof.Machine

/-! ### Emptying the work -/

/-- The passage when the list is emptied: a HELD write stops waiting and becomes UNPLACED, a PLACED
write becomes UNPLACED (R64, R66). -/
def Passage.emptied (p : Passage) : Passage :=
  match p.inHand with
  | some (.write a l d .held) => { p with inHand := some (.write a l d .unplaced), stallTimer := none }
  | some (.write a l d .placed) => { p with inHand := some (.write a l d .unplaced) }
  | _ => p

/-- The passage holds a HELD write. -/
def Passage.holds (p : Passage) : Bool :=
  match p.inHand with
  | some (.write _ _ _ .held) => true
  | _ => false

/-- The destination address of the copy engine's position (R123). -/
def CopyEngine.destAddress (c : CopyEngine) : Addr :=
  match c.request with
  | some q => q.destAt c.row c.word
  | none => 0

/-- The copy engine waits for a place (R129). -/
def CopyEngine.waits (c : CopyEngine) : Bool :=
  match c.step with
  | .waitPlace _ => true
  | _ => false

/-- The copy engine when the list is emptied: a wait for a place ends and the write is made without one,
a PLACED write becomes UNPLACED (R64, R129). -/
def CopyEngine.emptied (c : CopyEngine) : CopyEngine :=
  match c.step with
  | .waitPlace w => { c with step := .destWrite w .unplaced }
  | .destWrite w .placed => { c with step := .destWrite w .unplaced }
  | _ => c

/-- The request the copy engine makes when its wait for a place ends at an emptying. -/
def CopyEngine.emptiedRequest (c : CopyEngine) : Option CopyAccess :=
  match c.step with
  | .waitPlace w => some (.write c.destAddress w)
  | _ => none

/-- The queue, the capture list and the render stage lose their work, and the parties waiting for a
place are let go (R37, R46, R57, R64, R69). -/
def State.emptyWork (s : State) : State :=
  { s with
    queue := []
    capture := { s.capture with records := [], reservations := 0 }
    stale := s.stale.dropHolds
    render := { s.render with item := none, captureCount := 0 }
    passage := s.passage.emptied
    copy := s.copy.emptied
    port := { s.port.dropRender with
      passWaiting := s.port.passWaiting || s.passage.holds
      copyWaiting := s.copy.emptiedRequest.or s.port.copyWaiting } }

/-! ### Sustain -/

/-- The sustain stops part way: the phase drives are released, the tick timer stops and a pulse in hand
is cut short (R81, R93). What the cells show is then not said (assumption log 16). -/
def State.stopSustain (s : State) : State :=
  { s with
    address := { s.address with running := false, phase := .notBegun, tick := none, pulse := none }
    glass := PanelGlass.unknown }

/-- The sustain starts at the standing durations, with its first cycle about to begin and the tick timer
from zero (R81). -/
def State.startSustain (s : State) : State :=
  { s with address := { s.address with
      running := true
      phase := .notBegun
      currentA := s.standing.phaseA
      currentB := s.standing.phaseB
      tick := tickInterval s.standing.rampSelect } }

/-! ### Timers -/

/-- Every debounce timer stops. -/
def Sequencer.stopDebounce (q : Sequencer) : Sequencer :=
  { q with
    debounceHvok := none
    debounceHvoc := none
    debounceX := Vector.replicate 8 none
    debounceY := Vector.replicate 8 none }

/-! ### Entries -/

/-- Entry to CHARGING (R97): HVEN on, charge timer started, HVOK and HVOC live. -/
def State.enterCharging (s : State) : State :=
  ({ s with seq := { s.seq with
      panel := .charging
      hven := true
      chargeTimer := some Config.chargeMicros
      restTimer := none
      debounceHvok := startDebounce s.standing s.seq.hvok
      debounceHvoc := startDebounce s.standing s.seq.hvoc } } : State).reportDue

/-- What every entry to CLEARING does (R98, R101, R47, R75, R94): the flags are cleared, the work is
emptied, every line is stale, the wipe and the global erases begin again. -/
def State.clearingEntry (s : State) : State :=
  let s := s.emptyWork
  { s with
    seq := { s.seq with
      panel := .clearing
      erasesDone := false
      wipeDone := false
      chargeTimer := none
      litTimer := none }
    stale := StaleSet.allSet
    render := { s.render with wipePosition := 0 }
    address := { s.address with globalErases := 0 } }

/-- Entry to CLEARING from CHARGING (R98): the sustain starts; HVOK is watched for loss and the groups
become live (R106). -/
def State.enterClearing (s : State) : State :=
  let s := s.clearingEntry.startSustain
  ({ s with seq := { s.seq with
      debounceHvok := startDebounce s.standing (!s.seq.hvok)
      debounceX := s.seq.liveTimers s.standing .x
      debounceY := s.seq.liveTimers s.standing .y } } : State).reportDue

/-- A soft restart (R101): CLEARING is entered again, the sustain runs on and the current durations are
set to the standing ones (R81). -/
def State.softRestart (s : State) : State :=
  let s := s.clearingEntry
  ({ s with address := { s.address with
      currentA := s.standing.phaseA
      currentB := s.standing.phaseB } } : State).reportDue

/-- Entry to LIT (R100): the LIT cause is set, the LIT-duration timer starts, the quiet arming flag is
cleared (R151). -/
def State.enterLit (s : State) : State :=
  ({ s with
    seq := { s.seq with panel := .lit, litTimer := some Config.litMicros }
    report := { s.report with quietArmed := false } } : State).enterCause .lit

/-- The eighth global erase has been issued: in CLEARING it is the second completion, or waits for the
wipe; in any other state the report has no effect (R94, R99). -/
def State.noteErases (s : State) : State :=
  if s.seq.panel = .clearing then
    let t : State := { s with seq := { s.seq with erasesDone := true } }
    if s.seq.wipeDone then t.enterLit else t
  else s

/-- The wipe is done: in CLEARING it is the second completion, or waits for the erases; in any other state
the report has no effect (R47, R99). -/
def State.noteWipe (s : State) : State :=
  if s.seq.panel = .clearing then
    let t : State := { s with seq := { s.seq with wipeDone := true } }
    if s.seq.erasesDone then t.enterLit else t
  else s

/-- What every entry to RESTING, BARRED or DARK does: HVEN off, the sustain stops, the work is emptied,
the charge and LIT-duration timers and every debounce timer stop (R102, R105). -/
def State.powerDown (s : State) : State :=
  let s := s.stopSustain.emptyWork
  { s with seq := { s.seq.stopDebounce with hven := false, chargeTimer := none, litTimer := none } }

/-- A recovery (R102): the count rises; at 5 RECOVERY LIMIT enters the fault set and the sequencer is
BARRED, below 5 it rests. -/
def State.recover (s : State) : State :=
  let n := s.seq.recoveryCount + 1
  let s := s.powerDown
  if Config.recoveryLimit ≤ n then
    (({ s with seq := { s.seq with panel := .barred, recoveryCount := n } } : State).enterFault
      .recoveryLimit).reportDue
  else
    ({ s with seq := { s.seq with
        panel := .resting
        recoveryCount := n
        restTimer := some Config.restMicros } } : State).reportDue

/-- Entry to BARRED at the end of a rest with an axis wholly out of service (R103). -/
def State.barNoGroups (s : State) : State :=
  let s := s.emptyWork
  (({ s with seq := { s.seq with panel := .barred, restTimer := none } } : State).enterFault
    .noGroups).reportDue

/-- Entry to DARK by STOP PANEL or SYSCLR (R105, R111): as every switching off, and the recovery count
is 0, every timer stops, the completion flags are clear, the stale set is empty (R67). -/
def State.enterDark (s : State) : State :=
  let s := s.powerDown
  ({ s with
    seq := { s.seq with
      panel := .dark
      recoveryCount := 0
      restTimer := none
      erasesDone := false
      wipeDone := false }
    stale := StaleSet.clear } : State).reportDue

end Sys2Proof.Machine
end

