-- ==== Sys2Proof/Machine/Writes.lean ====
section
/-! DEFINITION. What a completed write becomes, for bus writes and copy writes alike (R52, R55–R57, R62,
R63, R72, R128), and the guard decision (R58, R65). -/

namespace Sys2Proof.Machine

/-- A control-page write is handed to the control block with its offset, lanes and data (R55). -/
def State.handOver (s : State) (a : Addr) (lanes : Lanes) (data : Word) : State :=
  { s with control := { s.control with
      handOvers := s.control.handOvers ++ [⟨a.toNat - controlPageStart s.straps, lanes, data⟩] } }

/-- An overflow (R63): the count rises, OVERFLOW is pending, and the lines of the write's row are marked
with the depth of the list (R12, R72). -/
def State.overflow (s : State) (a : Addr) (lanes : Lanes) : State :=
  let s := ({ s with capture := { s.capture with overflows := satAdd s.capture.overflows 1 } } : State).enterCause
    .overflow
  match s.standing.overflowLines a lanes with
  | none => s
  | some ls =>
    { s with stale := s.stale.mark (fun l => decide (ls.1 ≤ l) && decide (l ≤ ls.2)) s.capture.records.length }

/-- The outcome of a completed picture write, by the sequencer state and its guard decision (R62). -/
def State.pictureWritten (s : State) (a : Addr) (lanes : Lanes) (data : Word) (d : GuardDecision) : State :=
  if s.seq.panel = .lit then
    match d with
    | .placed => { s with capture := (s.capture.release .placed).join ⟨a, lanes, carriedData lanes data⟩ }
    | .unplaced =>
      if s.capture.hasFree then { s with capture := s.capture.join ⟨a, lanes, carriedData lanes data⟩ }
      else s.overflow a lanes
    | .held | .expired => s.overflow a lanes
  else { s with capture := s.capture.release d }

/-- A completed write that is not a cell-plane write: its lanes are in memory, and it is handed over,
captured, or only releases its place (R52, R55, R62). -/
def State.landed (s : State) (a : Addr) (lanes : Lanes) (data : Word) (d : GuardDecision) : State :=
  let t := s.writeWord a lanes data
  match s.classify a with
  | .controlPage => ({ t with capture := t.capture.release d } : State).handOver a lanes data
  | .picture => t.pictureWritten a lanes data d
  | .other | .plane => { t with capture := t.capture.release d }

end Sys2Proof.Machine
end

