-- ==== Sys2Proof/Machine/Bus.lean ====
section
/-! DEFINITION. The rows of the bus passage (chapter 4). Each row is a partial function: `none` where the
row cannot come about in the state (assumption log 1). -/

namespace Sys2Proof.Machine

/-- The passage takes a read in hand and asks for its access at once (R51). -/
def State.takeRead (s : State) (a : Addr) : State :=
  ({ s with passage := { s.passage with
      inHand := some (.read a)
      presented := none
      rdy := false } } : State).askPassthrough

/-- The passage holds a write with the given decision; the stall timer runs only for a HELD one. -/
def State.holdWrite (s : State) (a : Addr) (lanes : Option Lanes) (data : Word) (d : GuardDecision)
    (stall : Timer) : State :=
  { s with passage := { s.passage with
      inHand := some (.write a lanes data d)
      presented := none
      stallTimer := stall
      rdy := false } }

/-- The passage takes a write in hand and makes its guard decision (R58): UNPLACED or PLACED writes ask for
their access at once; a write that finds no place is HELD, or EXPIRED at once when the stall limit is 0 (R61). -/
def State.takeWrite (s : State) (a : Addr) (ubs lbs : Bool) (data : Word) : State :=
  let lanes := lanesOf ubs lbs
  if !s.needsPlace a lanes then (s.holdWrite a lanes data .unplaced none).askPassthrough
  else if s.capture.hasFree then
    (({ s with capture := s.capture.reserve } : State).holdWrite a lanes data .placed none).askPassthrough
  else if s.standing.stallLimit = 0 then (s.holdWrite a lanes data .expired none).askPassthrough
  else s.holdWrite a lanes data .held (some s.standing.stallLimit)

/-- A cycle presented while SYSCLR or POR is asserted waits on the bus with RDY low (R51, R66). -/
def State.present (s : State) (c : PresentedCycle) : State :=
  { s with passage := { s.passage with presented := some c, rdy := false } }

/-- BUS_READ: no cycle can be presented while one is in hand (R51); while POR or SYSCLR is asserted the
cycle is not taken (R51, R66). -/
def rowBusRead (a : Addr) (s : State) : Option State :=
  if s.passage.inHand.isSome then none
  else if s.por || s.sysclr then some (s.present (.read a))
  else some (s.takeRead a)

/-- BUS_WRITE, with the same restrictions. -/
def rowBusWrite (a : Addr) (ubs lbs : Bool) (data : Word) (s : State) : Option State :=
  if s.passage.inHand.isSome then none
  else if s.por || s.sysclr then some (s.present (.write a ubs lbs data))
  else some (s.takeWrite a ubs lbs data)

/-- The cycle still presented when POR has ended and SYSCLR is negated is taken (R51, R66). -/
def takePresented (s : State) : Option State :=
  if s.por || s.sysclr || s.passage.inHand.isSome then none
  else
    match s.passage.presented with
    | some (.read a) => some (s.takeRead a)
    | some (.write a ubs lbs data) => some (s.takeWrite a ubs lbs data)
    | none => none

/-- STALL_EXPIRY: the HELD write becomes EXPIRED and asks for its access without a place (R60). -/
def rowStallExpiry (s : State) : Option State :=
  match s.passage.inHand, s.passage.stallTimer with
  | some (.write a lanes data .held), some _ => some (s.holdWrite a lanes data .expired none).askPassthrough
  | _, _ => none

/-- HELD_WRITE_PLACED: a free place is given to the HELD write, which becomes PLACED (R59, R60). -/
def rowHeldWritePlaced (s : State) : Option State :=
  match s.passage.inHand with
  | some (.write a lanes data .held) =>
    if s.capture.hasFree then
      some (({ s with capture := s.capture.reserve } : State).holdWrite a lanes data .placed none).askPassthrough
    else none
  | _ => none

/-- The bus cycle in hand is over: RDY returns high (R51). -/
def State.endCycle (s : State) : State :=
  { s with passage := { s.passage with inHand := none, stallTimer := none, rdy := true } }

/-- PASSTHROUGH_READ_DONE: RDY returns high with the word from DRAM (R51). -/
def rowPassthroughReadDone (s : State) : Option State :=
  match s.port.current, s.passage.inHand with
  | some .passthrough, some (.read a) =>
    let t := s.endGrant.endCycle
    some { t with passage := { t.passage with busData := s.readWord a } }
  | _, _ => none

/-- A completed bus write with lanes: a cell-plane write is withheld, counted and its place released
(R54); any other lands (R52, R62). -/
def State.busWritten (s : State) (a : Addr) (lanes : Lanes) (data : Word) (d : GuardDecision) : State :=
  if s.classify a = .plane then
    { s with
      passage := { s.passage with guardedWrites := satAdd s.passage.guardedWrites 1 }
      capture := s.capture.release d }
  else s.landed a lanes data d

/-- PASSTHROUGH_WRITE_DONE: the write is classified and handled, and RDY returns high; a write with no lane
writes nothing and is not classified (R52, R53). -/
def rowPassthroughWriteDone (s : State) : Option State :=
  match s.port.current, s.passage.inHand with
  | some .passthrough, some (.write a lanes data d) =>
    let t := s.endGrant.endCycle
    match lanes with
    | none => some { t with capture := t.capture.release d }
    | some l => some (t.busWritten a l data d)
  | _, _ => none

end Sys2Proof.Machine
end

