-- ==== Sys2Proof/Machine/Copying.lean ====
section
/-! DEFINITION. The rectangle copy engine (chapter 9): starting, the order of work, destination writes,
cancelling and ending, and its rows. -/

namespace Sys2Proof.Machine

/-- Ask for the destination write of the position with the given decision (R126). -/
def State.askCopyWrite (s : State) (w : Word) (d : GuardDecision) : State :=
  ({ s with copy := { s.copy with step := .destWrite w d } } : State).askCopy (.write s.copy.destAddress w)

/-- The guard decision of a destination write (R65): UNPLACED, PLACED, or a wait without limit (R129). A
place that falls free while a bus write is HELD goes to that write (R59), so it is not free here. -/
def State.beginCopyWrite (s : State) (w : Word) : State :=
  if !s.needsPlace s.copy.destAddress (some .both) then s.askCopyWrite w .unplaced
  else if s.capture.hasFree && !s.passage.holds then
    ({ s with capture := s.capture.reserve } : State).askCopyWrite w .placed
  else { s with copy := { s.copy with step := .waitPlace w } }

/-- Begin the word of the position: the source read of a COPY, the destination write of a FILL (R126). -/
def State.beginCopyWord (s : State) : State :=
  match s.copy.request with
  | none => s
  | some q =>
    match q.mode with
    | .copy =>
      ({ s with copy := { s.copy with step := .sourceRead } } : State).askCopy
        (.read (q.sourceAt s.copy.row s.copy.word))
    | .fill => s.beginCopyWrite q.fill

/-- A copy ends (R133): the outcome is recorded, a report is due, and COPY END is set except for ABORTED. -/
def State.endCopy (s : State) (o : CopyOutcome) : State :=
  let t : State := { s with copy := { s.copy with outcome := o, step := .none, cancelling := false } }
  if o = .aborted then t.reportDue else t.enterCause .copyEnd

/-- A START COPY whose request passes its checks (R125): the request is latched and the first word begins. -/
def State.startCopy (s : State) (q : CopyRequest) : State :=
  ({ s with copy := {
      request := some q
      row := 0
      word := 0
      step := .none
      rowsRemaining := q.rows
      outcome := .active
      cancelling := false } } : State).beginCopyWord

/-- START COPY as a command (R125). R134 says that the last granted access of an aborted copy ends before a new copy can
start; a START COPY handed over before SYSCLR and taken after it (R149) can find that access in progress, and that the
new copy then starts beside it is the model's choice (assumption log 37). -/
def State.doStartCopy (s : State) : State × CommandOutcome :=
  if s.copy.outcome = .active then (s, .busy)
  else if s.control.copyRequest.passes s.standing s.straps then (s.startCopy s.control.copyRequest, .done)
  else (s, .range)

/-- An access of the copy in hand has been granted (R132). -/
def MemoryPort.copying (p : MemoryPort) : Bool :=
  match p.current with
  | some (.copy _ true) => true
  | _ => false

/-- The reservation of a PLACED destination write that is given up before its access is granted (R57, R132). -/
def CopyEngine.decision (c : CopyEngine) : GuardDecision :=
  match c.step with
  | .destWrite _ d => d
  | .none | .sourceRead | .waitPlace _ => .unplaced

/-- CANCEL COPY as a command (R132): with an access granted the copy ends at that access's completion,
otherwise at once, withdrawing its request or its wait and releasing its place. -/
def State.doCancelCopy (s : State) : State × CommandOutcome :=
  if s.copy.outcome ≠ .active then (s, .wrongState)
  else if s.copy.cancelling then (s, .done)
  else if s.port.copying then ({ s with copy := { s.copy with cancelling := true } }, .done)
  else
    (({ s with
        port := { s.port with copyWaiting := none }
        capture := s.capture.release s.copy.decision } : State).endCopy .cancelled, .done)

/-- The copy moves on after a destination write that was made (R126, R132): the next word, the next row,
or the end with DONE, or with CANCELLED when a cancel waits. -/
def State.copyAdvance (s : State) (q : CopyRequest) : State :=
  let rowDone := decide (s.copy.word + 1 = q.words)
  let t : State := { s with copy := { s.copy with
      row := if rowDone then s.copy.row + 1 else s.copy.row
      word := if rowDone then 0 else s.copy.word + 1
      rowsRemaining := if rowDone then s.copy.rowsRemaining - 1 else s.copy.rowsRemaining } }
  if s.copy.cancelling then t.endCopy .cancelled
  else if rowDone && decide (s.copy.row + 1 = q.rows) then t.endCopy .done
  else t.beginCopyWord

/-- COPY_READ_DONE (R126, R132, R134): the word read is held and its destination write receives its guard
decision; a read for a cancelled copy ends it, one for an aborted copy is discarded. -/
def rowCopyReadDone (s : State) : Option State :=
  match s.port.current with
  | some (.copy (.read a) owned) =>
    let t := s.endGrant
    if !owned then some t
    else if s.copy.step ≠ .sourceRead then none
    else if s.copy.cancelling then some (t.endCopy .cancelled)
    else some (t.beginCopyWrite (s.readWord a))
  | _ => none

/-- COPY_PLACE_GIVEN: a free place is given to the waiting copy engine when no bus write is HELD (R59, R129). -/
def rowCopyPlaceGiven (s : State) : Option State :=
  match s.copy.step with
  | .waitPlace w =>
    if s.capture.hasFree && !s.passage.holds then
      some (({ s with capture := s.capture.reserve } : State).askCopyWrite w .placed)
    else none
  | _ => none

/-- A destination write for an aborted copy (R134): withheld in the plane, made elsewhere; the copy's
outcome and rows remaining are left. -/
def State.orphanCopyWritten (s : State) (a : Addr) (w : Word) : State :=
  if s.classify a = .plane then s else s.landed a .both w .unplaced

/-- A destination write of the copy in hand (R128, R130): withheld in the plane, and the copy ends
GUARDED; made elsewhere, and the copy moves on. -/
def State.copyWritten (s : State) (q : CopyRequest) (a : Addr) (w : Word) (d : GuardDecision) : State :=
  if s.classify a = .plane then ({ s with capture := s.capture.release d } : State).endCopy .guarded
  else (s.landed a .both w d).copyAdvance q

/-- COPY_WRITE_DONE (R128). -/
def rowCopyWriteDone (s : State) : Option State :=
  match s.port.current with
  | some (.copy (.write a w) owned) =>
    if !owned then some (s.endGrant.orphanCopyWritten a w)
    else
      match s.copy.step, s.copy.request with
      | .destWrite _ d, some q => some (s.endGrant.copyWritten q a w d)
      | _, _ => none
  | _ => none

end Sys2Proof.Machine
end

