-- ==== Sys2Proof/Machine/Control.lean ====
section
/-! DEFINITION. The control block (chapter 10): the hand-overs, the staged words and the commands, each
command a row. -/

namespace Sys2Proof.Machine

/-! ### Taking a hand-over -/

/-- The hand-over is a command take (R145): offset 0, the LOW lane carried, and a code other than 0. -/
def HandOver.isCommand (h : HandOver) : Bool :=
  decide (h.offset = 0) && h.lanes.hasLow && decide (lowByte h.data ≠ 0)

/-- The hand-over carries a new argument: offset 0 with the HIGH lane (R139). -/
def HandOver.newArgument (h : HandOver) : Bool := decide (h.offset = 0) && h.lanes.hasHigh

/-- The control block takes the oldest hand-over; a HIGH lane carried to offset 0 is written into the
argument latch first (R139, R145). -/
def State.takeHandOver (s : State) (h : HandOver) (rest : List HandOver) : State :=
  { s with control := { s.control with
      handOvers := rest
      argument := if h.newArgument then highByte h.data else s.control.argument } }

/-- What every command take ends with (R145): code and outcome are recorded, a report is due, and an
outcome other than DONE enters REFUSED. -/
def State.recordCommand (s : State) (code : Byte) (o : CommandOutcome) : State :=
  let t := ({ s with control := { s.control with lastCode := code, lastOutcome := o } } : State).reportDue
  if o = .done then t else t.enterCause .refused

/-- A command row: it comes about when the oldest hand-over is a command take whose code `isMine`
accepts; it acts at the take and is then recorded (R145). -/
def commandRow (isMine : Byte → Bool) (act : State → State × CommandOutcome) (s : State) : Option State :=
  match s.control.handOvers with
  | [] => none
  | h :: rest =>
    if h.isCommand && isMine (lowByte h.data) then
      let r := act (s.takeHandOver h rest)
      some (r.1.recordCommand (lowByte h.data) r.2)
    else none

/-- STAGED_WRITE: the oldest hand-over, when it carries no command, is latched lane by lane by its offset,
or has no effect (R139). -/
def rowStagedWrite (s : State) : Option State :=
  match s.control.handOvers with
  | [] => none
  | h :: rest =>
    if h.isCommand then none
    else
      let t := s.takeHandOver h rest
      some { t with control := t.control.latch h }

/-! ### What each command does -/

/-- COMMIT (R141): BUSY while a commit waits; otherwise the candidate is checked, the clamp set replaced,
and the candidate becomes the checked set, or the command ends RANGE. -/
def State.doCommit (s : State) : State × CommandOutcome :=
  if s.control.checked.isSome then (s, .busy)
  else
    let t : State := { s with control := { s.control with clampSet := s.control.candidateClamps } }
    if s.control.candidatePasses s.straps then
      ({ t with control := { t.control with checked := some s.control.candidate } }, .done)
    else (t, .range)

/-- RESTART PANEL (R146). -/
def State.doRestart (s : State) : State × CommandOutcome :=
  match s.seq.panel with
  | .dark => (s.enterCharging, .done)
  | .clearing | .lit => (s.softRestart, .done)
  | .charging | .resting => (s, .busy)
  | .barred => (s, .wrongState)

/-- STOP PANEL (R146, R105). -/
def State.doStop (s : State) : State × CommandOutcome :=
  match s.seq.panel with
  | .dark => (s, .wrongState)
  | .charging | .clearing | .lit | .resting | .barred => (s.enterDark, .done)

/-- The condition of a fault kind is present (R110). -/
def Sequencer.conditionPresent (q : Sequencer) (p : ParamSet) : FaultKind → Bool
  | .hvLow => q.panel.addressed && !q.hvok
  | .hvOvercurrent => q.hvoc
  | .chargeTimeout => false
  | .groupFault => q.someGroupFault p
  | .recoveryLimit => decide (q.recoveryCount = Config.recoveryLimit)
  | .noGroups => q.axisOut

/-- The fault kinds whose condition is present, as bits (R110). -/
def Sequencer.presentBits (q : Sequencer) (p : ParamSet) : BitVec 6 :=
  [FaultKind.hvLow, .hvOvercurrent, .chargeTimeout, .groupFault, .recoveryLimit, .noGroups].foldl
    (fun b k => if q.conditionPresent p k then b ||| k.bit else b) 0

/-- CLEAR FAULTS (R110): in DARK every group is restored to service; then every kind whose condition is
absent leaves the fault set. -/
def State.doClearFaults (s : State) : State × CommandOutcome :=
  let q : Sequencer :=
    if s.seq.panel = .dark then { s.seq with strikeX := 0, strikeY := 0, outX := 0, outY := 0 } else s.seq
  ({ s with seq := { q with faults := q.faults &&& q.presentBits s.standing } }, .done)

/-- RELEASE (R147): the causes whose bit is 1 in the argument leave the pending cause set. -/
def State.doRelease (s : State) : State × CommandOutcome :=
  (({ s with report := { s.report with
      causes := s.report.causes &&& ~~~(s.control.argument.setWidth 6) } } : State).decideAtn, .done)

/-- RESWEEP ALL (R74, R146): in LIT all 512 lines are marked with the depth of the capture list. -/
def State.doResweepAll (s : State) : State × CommandOutcome :=
  if s.seq.panel = .lit then
    ({ s with stale := s.stale.mark (fun _ => true) s.capture.records.length }, .done)
  else (s, .wrongState)

/-! ### The command rows (codes of R145) -/

/-- COMMIT, code 01h. -/
def rowCommit : State → Option State := commandRow (fun c => decide (c = 1)) State.doCommit

/-- RESTART PANEL, code 02h. -/
def rowRestartPanel : State → Option State := commandRow (fun c => decide (c = 2)) State.doRestart

/-- STOP PANEL, code 03h. -/
def rowStopPanel : State → Option State := commandRow (fun c => decide (c = 3)) State.doStop

/-- CLEAR FAULTS, code 04h. -/
def rowClearFaults : State → Option State := commandRow (fun c => decide (c = 4)) State.doClearFaults

/-- RELEASE, code 05h. -/
def rowRelease : State → Option State := commandRow (fun c => decide (c = 5)) State.doRelease

/-- START COPY, code 06h. -/
def rowStartCopy : State → Option State := commandRow (fun c => decide (c = 6)) State.doStartCopy

/-- CANCEL COPY, code 07h. -/
def rowCancelCopy : State → Option State := commandRow (fun c => decide (c = 7)) State.doCancelCopy

/-- RESWEEP ALL, code 08h. -/
def rowResweepAll : State → Option State := commandRow (fun c => decide (c = 8)) State.doResweepAll

/-- REPORT NOW, code 09h: nothing beyond what every command take does (R147). -/
def rowReportNow : State → Option State := commandRow (fun c => decide (c = 9)) (fun s => (s, .done))

/-- Codes 0Ah to FFh: UNKNOWN, no other effect (R145). -/
def rowUnknownCommand : State → Option State :=
  commandRow (fun c => decide (10 ≤ c.toNat)) (fun s => (s, .unknown))

/-- The control block deals with the oldest hand-over, whichever of its rows that is. -/
def rowHandOver (s : State) : Option State :=
  (rowStagedWrite s).or <| (rowCommit s).or <| (rowRestartPanel s).or <| (rowStopPanel s).or <|
    (rowClearFaults s).or <| (rowRelease s).or <| (rowStartCopy s).or <| (rowCancelCopy s).or <|
      (rowResweepAll s).or <| (rowReportNow s).or (rowUnknownCommand s)

end Sys2Proof.Machine
end

