-- ==== Sys2Proof/Machine/Render.lean ====
section
/-! DEFINITION. The render stage (chapters 3 and 5): applying a commit, taking items, handling cell words,
and the wipe. -/

namespace Sys2Proof.Machine

/-! ### Applying a commit -/

/-- What the address stage does with an applied commit (R84): with the sustain stopped, or with ramp select
0, the current durations become the standing ones; a changed ramp select starts the tick timer again. R84 says so of the
timer without condition, R81 has it stopped with the sustain: that it then stays stopped is the model's choice
(assumption log 35). -/
def AddressStage.applyCommit (a : AddressStage) (old new : ParamSet) : AddressStage :=
  let jump := !a.running || decide (new.rampSelect = 0)
  { a with
    currentA := if jump then new.phaseA else a.currentA
    currentB := if jump then new.phaseB else a.currentB
    tick := if a.running && decide (old.rampSelect ≠ new.rampSelect) then tickInterval new.rampSelect else a.tick }

/-- The debounce timer of a group at a change of the masks (R108): a group that becomes masked stops its
timer; one that becomes unmasked while its input is live and asserted starts it; others keep theirs. -/
def Sequencer.remaskTimer (q : Sequencer) (old new : ParamSet) (axis : Axis) (g : Nat) : Timer :=
  if (new.mask axis).getLsbD g then none
  else if (old.mask axis).getLsbD g then
    startDebounce new (q.groupLive new axis g && (q.inputs axis).getLsbD g)
  else q.groupTimer axis g

/-- The sequencer after a change of the masks (R108). -/
def Sequencer.remask (q : Sequencer) (old new : ParamSet) : Sequencer :=
  { q with
    debounceX := Vector.ofFn fun g : Fin 8 => q.remaskTimer old new .x g.val
    debounceY := Vector.ofFn fun g : Fin 8 => q.remaskTimer old new .y g.val }

/-- COMMIT_APPLY (R41, R143, R144): between items the checked set becomes the standing set, each changed
class reaches its owner, ATN is decided again, and a moved plane makes a soft restart in CLEARING or LIT. -/
def rowCommitApply (s : State) : Option State :=
  match s.render.item, s.control.checked with
  | none, some new =>
    let old := s.standing
    let t : State :=
      ({ s with
        standing := new
        control := { s.control with checked := none }
        stale := s.stale.mark (old.commitMarks new) s.capture.records.length
        address := s.address.applyCommit old new
        seq := s.seq.remask old new } : State).decideAtn
    some (if old.planeBlock ≠ new.planeBlock ∧ s.seq.panel.addressed = true then t.softRestart else t)
  | _, _ => none

/-! ### Beginning cell words -/

/-- The change queue leaves room for the joins of one cell word (R42). -/
def State.roomInQueue (s : State) : Bool := decide (s.queue.length ≤ Config.freeEntryLimit)

/-- The item in hand, if any, is now `i`. -/
def State.withItem (s : State) (i : Option RenderItem) : State :=
  { s with render := { s.render with item := i } }

/-- Begin a cell word of a CAPTURE item: its read is asked for, after the free-entry wait (R42, R43). -/
def State.beginCapture (s : State) (r : CaptureRecord) (c : CellWord) (rest : List CellWord) : State :=
  if s.roomInQueue then
    (s.withItem (some (.capture r c rest .cellRead))).askRender (.readCell (s.standing.cellAddress c))
  else s.withItem (some (.capture r c rest .freeWait))

/-- The next access of a RESWEEP item: its picture words in ascending order, then the cell word (R45, R77). -/
def State.resweepRead (s : State) (c : CellWord) (got : List (Addr × Word)) : List Addr → State
  | [] => (s.withItem (some (.resweep c got [] .cellRead))).askRender (.readCell (s.standing.cellAddress c))
  | a :: more => (s.withItem (some (.resweep c got (a :: more) .pictureRead))).askRender (.readPicture a)

/-- Begin a RESWEEP item: the free-entry wait stands before its first read (R42, R45). -/
def State.beginResweep (s : State) (c : CellWord) : State :=
  if s.roomInQueue then s.resweepRead c [] (s.standing.sampledWords c)
  else s.withItem (some (.resweep c [] (s.standing.sampledWords c) .freeWait))

/-- The cell words of a capture record's rectangle, in the order of R44. -/
def ParamSet.recordWords (p : ParamSet) (r : CaptureRecord) : List CellWord :=
  match p.rectangle r with
  | none => []
  | some q => q.cellWords

/-- A CAPTURE item goes on with its next cell word, or is finished (R44). -/
def State.nextCaptureWord (s : State) (r : CaptureRecord) : List CellWord → State
  | [] => s.withItem none
  | c :: rest => s.beginCapture r c rest

/-! ### Taking items -/

/-- The render stage can choose an item: it holds none, no commit waits (R40, R41), and no access it gave
up is still in progress (R112, R120). -/
def State.canChoose (s : State) : Bool :=
  s.render.item.isNone && s.control.checked.isNone && !s.port.rendering

/-- CAPTURE_ITEM (R40, R44): in LIT the oldest record is taken unless a resweep word waits and the
consecutive-capture count is 8. The holds fall (R69), a place falls free (R59). -/
def rowCaptureItem (s : State) : Option State :=
  match s.capture.records with
  | [] => none
  | r :: rest =>
    if s.seq.panel = .lit ∧ s.canChoose = true ∧
        ¬(s.stale.offer.isSome = true ∧ 8 ≤ s.render.captureCount) then
      let t : State :=
        { s with
          capture := { s.capture with records := rest }
          stale := s.stale.lowerHolds
          render := { s.render with captureCount := min 8 (s.render.captureCount + 1) } }
      some (t.nextCaptureWord r (s.standing.recordWords r))
    else none

/-- RESWEEP_ITEM (R40, R45, R71): in LIT the offered word is taken when the list is empty or the count is 8. -/
def rowResweepItem (s : State) : Option State :=
  match s.stale.offer with
  | none => none
  | some c =>
    if s.seq.panel = .lit ∧ s.canChoose = true ∧
        (s.capture.records = [] ∨ 8 ≤ s.render.captureCount) then
      let t : State :=
        { s with
          stale := s.stale.takeWord c
          render := { s.render with captureCount := 0 } }
      some (t.beginResweep c)
    else none

/-- The plane word at the wipe position (R47). -/
def State.wipeAddress (s : State) : Addr := BitVec.ofNat 18 (s.standing.planeStart + s.render.wipePosition)

/-- WIPE_ITEM (R47): in CLEARING, until the wipe is finished, the plane word at the wipe position is to be
zeroed. -/
def rowWipeItem (s : State) : Option State :=
  if s.seq.panel = .clearing ∧ s.canChoose = true ∧ s.render.wipePosition < Config.planeWords then
    some ((s.withItem (some (.wipe s.wipeAddress))).askRender (.wipe s.wipeAddress))
  else none

/-- FREE_ENTRY_WAIT_END (R42): the queue has fallen to 240 orders or fewer, and the cell word begins. -/
def rowFreeEntryWaitEnd (s : State) : Option State :=
  if s.roomInQueue then
    match s.render.item with
    | some (.capture r c rest .freeWait) => some (s.beginCapture r c rest)
    | some (.resweep c got toRead .freeWait) => some (s.resweepRead c got toRead)
    | _ => none
  else none

/-! ### Accesses of the item in hand -/

/-- PICTURE_READ_DONE (R45, R77): the word is kept and the next read asked for; a read given up is
discarded (R78, R120). -/
def rowPictureReadDone (s : State) : Option State :=
  match s.port.current with
  | some (.render (.readPicture _) false) => some s.endGrant
  | some (.render (.readPicture a) true) =>
    match s.render.item with
    | some (.resweep c got (_ :: more) .pictureRead) =>
      some (s.endGrant.resweepRead c (got ++ [(a, s.readWord a)]) more)
    | _ => none
  | _ => none

/-- The cell word in hand is finished: the next one begins, or the item is finished (R44, R45). -/
def State.cellWordDone (s : State) : RenderItem → State
  | .capture r _ rest _ => s.nextCaptureWord r rest
  | .resweep _ _ _ _ => s.withItem none
  | .wipe _ => s.withItem none

/-- The cell word an item has in hand. -/
def RenderItem.cell? : RenderItem → Option CellWord
  | .capture _ c _ _ => some c
  | .resweep c _ _ _ => some c
  | .wipe _ => none

/-- The item with the working copy waiting to be written back (R43 step 4). -/
def RenderItem.writingBack (i : RenderItem) (w : Word) : RenderItem :=
  match i with
  | .capture r c rest _ => .capture r c rest (.writeBack w)
  | .resweep c got toRead _ => .resweep c got toRead (.writeBack w)
  | .wipe a => .wipe a

/-- The item is reading its cell word. -/
def RenderItem.readingCell : RenderItem → Bool
  | .capture _ _ _ .cellRead => true
  | .resweep _ _ _ .cellRead => true
  | _ => false

/-- The compare of a cell word read as `w` (R43 steps 2 to 4): the change arrivals reach the queue; when a
bit changed the write-back is asked for, otherwise the cell word is finished. -/
def State.compareCell (s : State) (i : RenderItem) (c : CellWord) (a : Addr) (w : Word) : State :=
  let r := compareTargets c.line (i.targets s.standing) s.queue w
  let t : State := { s with queue := r.1 }
  if r.2 = w then t.cellWordDone i
  else (t.withItem (some (i.writingBack r.2))).askRender (.writeBack a r.2)

/-- CELL_WORD_READ_DONE (R43). -/
def rowCellWordReadDone (s : State) : Option State :=
  match s.port.current with
  | some (.render (.readCell _) false) => some s.endGrant
  | some (.render (.readCell a) true) =>
    match s.render.item with
    | some i =>
      if i.readingCell then i.cell?.map fun c => s.endGrant.compareCell i c a (s.readWord a) else none
    | none => none
  | _ => none

/-- WRITE_BACK_DONE (R33, R43): the working copy is in DRAM; the item goes on, or the write-back of an
abandoned item has landed for nobody (R46). -/
def rowWriteBackDone (s : State) : Option State :=
  match s.port.current with
  | some (.render (.writeBack a w) false) => some (s.endGrant.writeWord a .both w)
  | some (.render (.writeBack a w) true) =>
    s.render.item.map fun i => (s.endGrant.writeWord a .both w).cellWordDone i
  | _ => none

/-- WIPE_WRITE_DONE (R47): the word is zero and the wipe position advances; after word 16,383 the wipe is
done. An abandoned wipe write lands, and moves nothing (R46). -/
def rowWipeWriteDone (s : State) : Option State :=
  match s.port.current with
  | some (.render (.wipe a) false) => some (s.endGrant.writeWord a .both 0)
  | some (.render (.wipe a) true) =>
    let t := s.endGrant.writeWord a .both 0
    let u : State := { t with render := { t.render with item := none, wipePosition := t.render.wipePosition + 1 } }
    some (if Config.planeWords ≤ u.render.wipePosition then u.noteWipe else u)
  | _ => none

end Sys2Proof.Machine
end

