-- ==== Sys2Proof/Machine/Addressing.lean ====
section
/-! DEFINITION. The address stage (chapter 6): the sustain cycle, the address slot, bursts, pulses, global
erases and the ramp. -/

namespace Sys2Proof.Machine

/-- The pulse used at a slot (R91): delay and width fitted to phase A. -/
def fitPulse (a d w : Nat) : Nat × Nat :=
  let width := if a - 4 < d + w then max 8 (a - 4 - d) else w
  (if a - 4 < d + width then a - 4 - width else d, width)

/-- The pulse to be issued at the slot a cycle opens (R91). -/
def State.pulseFor (s : State) (op : PulseOp) : Pulse :=
  let f := fitPulse s.address.cycleA s.standing.addressDelay s.standing.addressWidth
  ⟨op, f.1, f.2, false⟩

/-- The order has the line and kind of the oldest order. -/
def CellOrder.rides (head o : CellOrder) : Bool := decide (o.line = head.line) && decide (o.kind = head.kind)

/-- The orders gathered at a take (R86): the oldest, and those among the G oldest of its line and kind. -/
def gathered (g : Nat) : List CellOrder → List CellOrder
  | [] => []
  | head :: rest => head :: (rest.take (g - 1)).filter (CellOrder.rides head)

/-- The orders that remain after a take, in their order (R86). -/
def remaining (g : Nat) : List CellOrder → List CellOrder
  | [] => []
  | head :: rest => (rest.take (g - 1)).filter (fun o => !CellOrder.rides head o) ++ rest.drop (g - 1)

/-- The orders of a take that are not dropped (R87). -/
def State.inService (s : State) (orders : List CellOrder) : List CellOrder :=
  orders.filter fun o => !s.seq.cellOut o.column o.line

/-- The take of a burst at a slot in LIT whose oldest order is `head` (R86–R88, R36, R151): the gathered
orders leave the queue, those out of service are dropped and counted, the rest are the burst, counted
in cells addressed and pulsed. -/
def State.takeBurst (s : State) (head : CellOrder) : State :=
  let all := gathered s.standing.gatherWindow s.queue
  let kept := s.inService all
  let columns := kept.map (·.column)
  { s with
    queue := remaining s.standing.gatherWindow s.queue
    address := { s.address with
      cellsAddressed := s.address.cellsAddressed + BitVec.ofNat 32 kept.length
      droppedOrders := satAdd s.address.droppedOrders (all.length - kept.length)
      pulse := if kept.isEmpty then none else some (s.pulseFor (.burst head.line head.kind columns)) }
    glass := s.glass.applyBurst head.line head.kind columns
    report := { s.report with quietArmed := true } }

/-- A global erase issued at a slot in CLEARING (R94): the count rises, every cell is darkened, and the
eighth sets erases done. -/
def State.globalErase (s : State) : State :=
  let t : State :=
    { s with
      address := { s.address with
        globalErases := s.address.globalErases + 1
        pulse := some (s.pulseFor .globalErase) }
      glass := PanelGlass.erased }
  if s.address.globalErases + 1 = 8 then t.noteErases else t

/-- What the address stage does at a slot, by sequencer state (R85). -/
def State.slot (s : State) : State :=
  match s.seq.panel with
  | .clearing => if s.address.globalErases < 8 then s.globalErase else s
  | .lit =>
    match s.queue with
    | [] => s
    | head :: _ => s.takeBurst head
  | .dark | .charging | .resting | .barred => s

/-- A cycle begins (R82): the current durations are latched and phase A starts. -/
def State.openCycle (s : State) : State :=
  { s with address := { s.address with
      cycleA := s.address.currentA
      cycleB := s.address.currentB
      phase := .a } }

/-- SUSTAIN_CYCLE_START (R82, R85): at the end of phase B, or at once when the sustain has started. -/
def rowSustainCycleStart (s : State) : Option State :=
  if s.address.running ∧ s.address.phase ≠ .a then some s.openCycle.slot else none

/-- PHASE_B_START (R82): phase A ends; a pulse of its slot has ended before (R92). -/
def rowPhaseBStart (s : State) : Option State :=
  if s.address.running ∧ s.address.phase = .a ∧ s.address.pulse = none then
    some { s with address := { s.address with phase := .b } }
  else none

/-- ADDRESS_PULSE_START (R92): the delay used runs out and the strobe is asserted. -/
def rowAddressPulseStart (s : State) : Option State :=
  match s.address.pulse with
  | some p =>
    if p.strobe then none
    else some { s with address := { s.address with pulse := some { p with strobe := true } } }
  | none => none

/-- ADDRESS_PULSE_END (R92): the width used runs out; the strobe ends and the current burst or global erase
is cleared. -/
def rowAddressPulseEnd (s : State) : Option State :=
  match s.address.pulse with
  | some p => if p.strobe then some { s with address := { s.address with pulse := none } } else none
  | none => none

/-- One eighth toward a value (R83). -/
def stepToward (current target : Nat) : Nat :=
  if current < target then current + 1 else if target < current then current - 1 else current

/-- RAMP_TICK (R83): each phase moves one eighth toward its standing value. -/
def rowRampTick (s : State) : Option State :=
  if s.address.running ∧ s.address.tick.isSome then
    some { s with address := { s.address with
      currentA := stepToward s.address.currentA s.standing.phaseA
      currentB := stepToward s.address.currentB s.standing.phaseB } }
  else none

end Sys2Proof.Machine
end

