-- ==== Sys2Proof/Machine/Faults.lean ====
section
/-! DEFINITION. The sequencer's rows (chapter 7): fault inputs and their debounce, seen faults, and the
charge, rest and LIT-duration timers. -/

namespace Sys2Proof.Machine

/-- HVOK is live and `level` is its active level in this panel state (R106): asserted in CHARGING, negated
in CLEARING and LIT. -/
def hvokActive (p : PanelState) (level : Bool) : Bool :=
  match p with
  | .charging => level
  | .clearing | .lit => !level
  | .dark | .resting | .barred => false

/-- FAULT_INPUT_CHANGE (R106): the input takes the level; a live input that takes its active level starts
its debounce timer, one that leaves it stops it. An input already at the level does not change. While POR is
asserted no timer starts (R95). -/
def rowFaultInputChange (input : FaultInput) (level : Bool) (s : State) : Option State :=
  match input with
  | .hvok =>
    if s.seq.hvok = level then none
    else some { s with seq := { s.seq with
      hvok := level
      debounceHvok := startDebounce s.standing (!s.por && hvokActive s.seq.panel level) } }
  | .hvoc =>
    if s.seq.hvoc = level then none
    else some { s with seq := { s.seq with
      hvoc := level
      debounceHvoc := startDebounce s.standing (!s.por && s.seq.panel.powered && level) } }
  | .group axis g =>
    if 8 ≤ g ∨ (s.seq.inputs axis).getLsbD g = level then none
    else
      let q := s.seq.setGroupTimer axis g
        (startDebounce s.standing (!s.por && s.seq.groupLive s.standing axis g && level))
      some { s with seq :=
        match axis with
        | .x => { q with gfx := withBit s.seq.gfx g level }
        | .y => { q with gfy := withBit s.seq.gfy g level } }

/-- HVOK_SEEN (R97, R98): the HVOK debounce expires in CHARGING, and the sequencer enters CLEARING. -/
def rowHvokSeen (s : State) : Option State :=
  if s.seq.panel = .charging ∧ s.seq.debounceHvok.isSome then some s.enterClearing else none

/-- HVOK_LOST (R106, R109): the loss of HVOK is seen in CLEARING or LIT. -/
def rowHvokLost (s : State) : Option State :=
  if s.seq.panel.addressed ∧ s.seq.debounceHvok.isSome then some (s.enterFault .hvLow).recover else none

/-- HVOC_SEEN (R97, R106, R109): HVOC is seen in CHARGING, CLEARING or LIT. -/
def rowHvocSeen (s : State) : Option State :=
  if s.seq.panel.powered ∧ s.seq.debounceHvoc.isSome then some (s.enterFault .hvOvercurrent).recover else none

/-- A strike for a group (R108): the first puts it in the one-strike set, the second moves it to the
out-of-service set. -/
def Sequencer.strike (q : Sequencer) (axis : Axis) (g : Nat) : Sequencer :=
  let second := (q.strikeSet axis).getLsbD g
  match axis with
  | .x => { q with strikeX := withBit q.strikeX g (!second), outX := if second then withBit q.outX g true else q.outX }
  | .y => { q with strikeY := withBit q.strikeY g (!second), outY := if second then withBit q.outY g true else q.outY }

/-- GROUP_STRIKE (R108, R109): the input of an unmasked, in-service group is seen. -/
def rowGroupStrike (axis : Axis) (g : Nat) (s : State) : Option State :=
  if s.seq.groupLive s.standing axis g = true ∧ (s.seq.groupTimer axis g).isSome then
    some (({ s with seq := s.seq.strike axis g } : State).enterFault .groupFault).recover
  else none

/-- CHARGE_TIMEOUT (R97): the charge timer expires in CHARGING. -/
def rowChargeTimeout (s : State) : Option State :=
  if s.seq.panel = .charging ∧ s.seq.chargeTimer.isSome then some (s.enterFault .chargeTimeout).recover else none

/-- REST_END (R103): the rest timer expires; with an axis wholly out of service the sequencer is BARRED
with NO GROUPS, otherwise it enters CHARGING. -/
def rowRestEnd (s : State) : Option State :=
  if s.seq.panel = .resting ∧ s.seq.restTimer.isSome then
    some (if s.seq.axisOut then s.barNoGroups else s.enterCharging)
  else none

/-- LIT_DURATION_EXPIRY (R100): the recovery count is set to 0 and the timer stops. -/
def rowLitDurationExpiry (s : State) : Option State :=
  if s.seq.panel = .lit ∧ s.seq.litTimer.isSome then
    some { s with seq := { s.seq with recoveryCount := 0, litTimer := none } }
  else none

/-- The first group of an axis, from `g` on, whose debounce time is 0 and whose timer runs. -/
def Sequencer.instantGroup (q : Sequencer) (axis : Axis) : List Nat → Option Nat
  | [] => none
  | g :: rest => if q.groupTimer axis g = some 0 then some g else q.instantGroup axis rest

/-- With a debounce time of 0 an input is seen at the moment it takes its active level or becomes live at
it (R107): the seen input whose row is then due. -/
def rowSeenAtOnce (s : State) : Option State :=
  if s.seq.debounceHvoc = some 0 then rowHvocSeen s
  else if s.seq.debounceHvok = some 0 then (rowHvokSeen s).or (rowHvokLost s)
  else
    match s.seq.instantGroup .x (List.range 8), s.seq.instantGroup .y (List.range 8) with
    | some g, _ => rowGroupStrike .x g s
    | none, some g => rowGroupStrike .y g s
    | none, none => none

end Sys2Proof.Machine
end

