-- ==== Sys2Proof/Machine/Port.lean ====
section
/-! DEFINITION. The memory port and the report unit (chapters 8 and 11): refresh, the grant decision, report
blocks and the power-on image. -/

namespace Sys2Proof.Machine

/-! ### Refresh -/

/-- REFRESH_DUE (R116): the refresh timer reaches 14 µs and starts again; a refresh is pending and waits. -/
def rowRefreshDue (s : State) : Option State :=
  if s.port.refreshTimer.isSome then
    some { s with port := { s.port with
      pendingRefresh := true
      refreshWaiting := true
      refreshTimer := some Config.refreshMicros } }
  else none

/-- REFRESH_DONE: the row counter advances and the pending refresh is cleared (R116), unless a further refresh has fallen
due and waits. R112 has a refresh pending only until it is granted: keeping it pending through the grant, by R116, is the
model's choice (assumption log 10). -/
def rowRefreshDone (s : State) : Option State :=
  match s.port.current with
  | some .refresh =>
    let t := s.endGrant
    some { t with port := { t.port with
      refreshRow := s.port.refreshRow + 1
      pendingRefresh := s.port.refreshWaiting } }
  | _ => none

/-! ### Arbitration -/

/-- The grant a request of the report unit gets. -/
def ReportRequest.grant : ReportRequest → Grant
  | .block => .reportBlock none
  | .image n => .image n

/-- The port with the grant `g` in progress, its decision made. -/
def MemoryPort.give (p : MemoryPort) (g : Grant) : MemoryPort := { p with current := some g, deciding := false }

/-- The grants that can be made: the port after granting each request of the waiting set, by rank (R112). -/
def MemoryPort.candidates (p : MemoryPort) : List MemoryPort :=
  (if p.refreshWaiting then [{ p.give .refresh with refreshWaiting := false }] else []) ++
    (if p.passWaiting then [{ p.give .passthrough with passWaiting := false }] else []) ++
    (p.reportWaiting.map fun r => { p.give r.grant with reportWaiting := none }).toList ++
    (p.renderWaiting.map fun a => { p.give (.render a true) with renderWaiting := none }).toList ++
    (p.copyWaiting.map fun a => { p.give (.copy a true) with copyWaiting := none }).toList

/-- The decision at the end of a grant (R112, R113): the waiting request of the highest rank is granted; with none
the port becomes idle. -/
def MemoryPort.grantHighest (p : MemoryPort) : MemoryPort := p.candidates.headD { p with deciding := false }

/-- A request at an idle port is granted at once; of several that have arrived together the port takes one first,
and either may be first (R113): a free value (assumption log 32). -/
def MemoryPort.grantArrived (p : MemoryPort) : Option MemoryPort :=
  match p.candidates with
  | [] => none
  | [q] => some q
  | q :: qs => some { (q :: qs).getD (Config.takenFirst p.ties % (q :: qs).length) q with ties := p.ties + 1 }

/-- GRANT_DECISION (R113, R117): comes about with no grant in progress. -/
def rowGrantDecision (s : State) : Option State :=
  match s.port.current with
  | some _ => none
  | none =>
    (if s.port.deciding then some s.port.grantHighest else s.port.grantArrived).map fun p => { s with port := p }

/-- How long a grant lasts, in nanoseconds (R112, R118, R119). -/
def Grant.nanos : Grant → Nat
  | .refresh => 320
  | .passthrough | .render _ _ | .copy _ _ => 400
  | .reportBlock _ => 6400
  | .image n => if n = 2 then 5200 else 6400

/-! ### The report record -/

/-- A word from its high and low byte. -/
def pack (hi lo : Byte) : Word := hi ++ lo

/-- The sixteen words of the report record as the part stands, with the given report write count (R137). -/
def State.reportWords (s : State) (count : Word) : List Word :=
  [ count,
    pack (BitVec.ofNat 8 s.seq.recoveryCount) s.seq.panel.code,
    pack s.control.clampSet (s.seq.faults.setWidth 8),
    pack s.seq.outY s.seq.outX,
    pack 0 (s.report.causes.setWidth 8),
    pack s.control.lastOutcome.code s.control.lastCode,
    pack s.copy.outcome.code (BitVec.ofNat 8 s.capture.records.length),
    BitVec.ofNat 16 s.queue.length,
    BitVec.ofNat 16 s.stale.count,
    BitVec.ofNat 16 s.copy.rowsRemaining,
    s.address.cellsAddressed.extractLsb' 0 16,
    s.address.cellsAddressed.extractLsb' 16 16,
    s.capture.overflows,
    s.passage.guardedWrites,
    s.address.droppedOrders,
    pack s.seq.strikeY s.seq.strikeX ]

/-- REPORT_BLOCK_GRANT (R154): the due flag is cleared, the report write count rises, and the values of the
record are taken as they stand. -/
def rowReportBlockGrant (s : State) : Option State :=
  match s.port.current with
  | some (.reportBlock none) =>
    let count := s.report.writeCount + 1
    some { s with
      report := { s.report with due := false, writeCount := count, block := .writing }
      port := { s.port with current := some (.reportBlock (some (s.reportWords count))) } }
  | _ => none

/-- The block state becomes IDLE, and a block is asked for at once if a report is due (R154, R155). -/
def State.blockIdle (s : State) : State :=
  if s.report.due then
    { s with
      report := { s.report with block := .waiting }
      port := { s.port with reportWaiting := some .block } }
  else { s with report := { s.report with block := .idle } }

/-- REPORT_BLOCK_DONE (R154, R118): the sixteen words stand at offsets 240 to 255. -/
def rowReportBlockDone (s : State) : Option State :=
  match s.port.current with
  | some (.reportBlock (some words)) =>
    some (s.endGrant.writeBlock (controlPageStart s.straps + 240) words).blockIdle
  | _ => none

/-- The first offset and the words of image grant `n` (R119, R140): the POR values of R136, whatever the
staged words are. -/
def imageWords : Nat → Nat × List Word
  | 1 => (1, ControlBlock.porParams.toList.take 16)
  | 2 => (17, ControlBlock.porParams.toList.drop 16)
  | 3 => (64, ControlBlock.porTables.toList.take 16)
  | _ => (80, ControlBlock.porTables.toList.drop 16)

/-- IMAGE_GRANT_DONE (R119, R155): the words of the image grant stand; the next is asked for, and after the
fourth the block state becomes IDLE and the first report block is asked for. -/
def rowImageGrantDone (s : State) : Option State :=
  match s.port.current with
  | some (.image n) =>
    let t := s.endGrant.writeBlock (controlPageStart s.straps + (imageWords n).1) (imageWords n).2
    some (if n < 4 then { t with port := { t.port with reportWaiting := some (.image (n + 1)) } } else t.blockIdle)
  | _ => none

/-! ### What the port drives -/

/-- What the port drives in one access (00_scope.md 1.5, R114, R116): the word addressed, or the DRAM row of a
refresh, as the multiplexed address carries it; the row and the column strobe; the lanes under the write strobe;
the data of a write (assumption log 27). -/
inductive DramAddress where
  | word (a : Addr)
  | row (r : Byte)
  deriving DecidableEq, Repr

/-- See `DramAddress`. -/
structure PortDrive where
  address : DramAddress
  rowStrobe : Bool
  columnStrobe : Bool
  writeStrobe : Option Lanes
  data : Option Word
  deriving DecidableEq, Repr

/-- A word read: no write strobe, no data (R114). -/
def PortDrive.read (a : Addr) : PortDrive := ⟨.word a, true, true, none, none⟩

/-- A word write with the lanes that its write strobe writes, if any (R114). -/
def PortDrive.write (a : Addr) (strobe : Option Lanes) (w : Word) : PortDrive := ⟨.word a, true, true, strobe, some w⟩

/-- The lanes under the write strobe of a passage or copy write: none for a cell-plane write (R52, R130). -/
def State.strobeOf (s : State) (a : Addr) (lanes : Option Lanes) : Option Lanes :=
  if s.classify a = .plane then none else lanes

/-- The writes of a block in ascending order, both lanes of each word (R118, R119). -/
def blockDrives : Nat → List Word → List PortDrive
  | _, [] => []
  | a, w :: ws => PortDrive.write (BitVec.ofNat 18 a) (some .both) w :: blockDrives (a + 1) ws

/-- What the port drives during the grant in progress, one entry for each access of the grant in its order; nothing
without a grant (R114, R116, R118, R119). -/
def State.portDrives (s : State) : List PortDrive :=
  match s.port.current with
  | none | some (.reportBlock none) => []
  | some .refresh => [⟨.row s.port.refreshRow, true, false, none, none⟩]
  | some .passthrough =>
    match s.passage.inHand with
    | none => []
    | some (.read a) => [.read a]
    | some (.write a lanes data _) => [.write a (s.strobeOf a lanes) data]
  | some (.reportBlock (some words)) => blockDrives (controlPageStart s.straps + 240) words
  | some (.image n) => blockDrives (controlPageStart s.straps + (imageWords n).1) (imageWords n).2
  | some (.render (.readPicture a) _) | some (.render (.readCell a) _) | some (.copy (.read a) _) => [.read a]
  | some (.render (.writeBack a w) _) => [.write a (some .both) w]
  | some (.render (.wipe a) _) => [.write a (some .both) 0]
  | some (.copy (.write a w) _) => [.write a (s.strobeOf a (some .both)) w]

end Sys2Proof.Machine
end

