-- ==== Sys2Proof/Machine/Resets.lean ====
section
/-! DEFINITION. The resets: power-on reset (R51, R95, R122, R140, R149, R155) and bus clear (R66, R111, R121,
R134, R149, R156). -/

namespace Sys2Proof.Machine

/-- POR_ASSERT: the grant in progress and the cycle in hand are abandoned, RDY is held low, HVEN goes off,
ATN is negated, the sustain, strobes and select buses are released, and DRAM is undefined from here on
(R51, R95, R122, R155). What the other blocks hold is replaced at POR_END. -/
def rowPorAssert (s : State) : Option State :=
  if s.por then none
  else
    let t := s.stopSustain
    some { t with
      por := true
      dram := []
      dramEpoch := s.dramEpoch + 1
      passage := { t.passage with inHand := none, stallTimer := none, rdy := false }
      seq := { t.seq with hven := false }
      port := { t.port with current := none }
      report := { t.report with atn := false } }

/-- POR_END: the straps are sampled, every block takes its POR state, the refresh timer starts from zero,
and the report unit asks for the first image grant (R119, R122, R140, R149, R155). The input levels, the
SYSCLR level and a cycle still presented are outside the part and stand. -/
def rowPorEnd (straps : BitVec 2) (s : State) : Option State :=
  if s.por then
    some { s with
      por := false
      straps := straps
      standing := ParamSet.por
      passage := { Passage.por with
        presented := s.passage.presented
        rdy := s.passage.presented.isNone
        busData := s.passage.busData }
      capture := CaptureList.por
      render := RenderStage.por
      queue := []
      stale := StaleSet.clear
      address := AddressStage.por
      glass := PanelGlass.unknown
      seq := { Sequencer.por with
        hvok := s.seq.hvok
        hvoc := s.seq.hvoc
        gfx := s.seq.gfx
        gfy := s.seq.gfy }
      port := MemoryPort.por
      copy := CopyEngine.por
      control := ControlBlock.por
      report := ReportUnit.por }
  else none

/-- An active copy is aborted at SYSCLR, and its accesses are given up (R121, R134). -/
def State.abortCopy (s : State) : State :=
  if s.copy.outcome = .active then
    ({ s with port := s.port.dropCopy } : State).endCopy .aborted
  else s

/-- SYSCLR at the moment it is asserted (R66, R111, R121, R134, R149, R156): the copy is aborted, the
sequencer enters DARK with all that brings, a waiting checked set is discarded, the pending causes are
emptied, the quiet arming flag is cleared and ATN is negated. A report becomes due by the entry to DARK. -/
def rowSysclr (s : State) : Option State :=
  if s.sysclr then none
  else if s.por then some { s with sysclr := true }
  else
    let t := s.abortCopy.enterDark
    some ({ t with
      sysclr := true
      control := { t.control with checked := none }
      report := { t.report with causes := 0, quietArmed := false } } : State).decideAtn

/-- SYSCLR_NEGATE: the passage may again take a presented cycle (R66). -/
def rowSysclrNegate (s : State) : Option State :=
  if s.sysclr then some { s with sysclr := false } else none

end Sys2Proof.Machine
end

