-- ==== Sys2Proof/Machine/Urgent.lean ====
section
/-! DEFINITION. What the manual makes happen "at once". A step that follows at once from the one before it is
due; the part takes the steps that are due before the next row of the queue, so no row can come between an
event and what follows from it at once (assumption log 38). A row that names a due step itself takes exactly that
step (assumption log 2, 20, 21). -/

namespace Sys2Proof.Machine

/-- The next step that is due at once inside the part: the first cycle of a sustain just started (R81), the
values of a granted report block (R154), a free place given to the party that waits for it (R59), a waiting
commit of an idle render stage (R41), the next render item (R40, R47), the end of a free-entry wait (R42). R148 lets
a commit that waits when a row empties the render stage be applied before or after the rest of that row's effects:
applying it after them is the model's choice (assumption log 34). So is the order of these steps among themselves where
the manual gives none, and that an input seen with a debounce of 0 comes after all of them (assumption log 36), and that
the requests they make come before the port's decision at a completion (assumption log 33), and that a hand-over which
waits comes after them, so that a RESWEEP take comes before the mark of a waiting RESWEEP ALL, which R68 lets reach the
set in either order (assumption log 38). -/
def dueUrgent (s : State) : Option State :=
  if s.por then none
  else
    ((if s.address.phase = .notBegun then rowSustainCycleStart s else none).or <|
      (rowReportBlockGrant s).or <| (rowHeldWritePlaced s).or <| (rowCopyPlaceGiven s).or <|
        (rowCommitApply s).or <| (rowCaptureItem s).or <| (rowResweepItem s).or <|
          (rowWipeItem s).or (rowFreeEntryWaitEnd s)).map State.afterEvent

/-- A bus cycle still presented is taken (R51, R66), and the port decides: at the end of a grant, or when a request
waits at an idle port, which is granted at once (R113, R117, R122). -/
def rowPresentedOrGrant (s : State) : Option State := (takePresented s).or (rowGrantDecision s)

/-- What is due before a row that may fall together with a hand-over or with an input seen: the urgent steps, a
cycle still presented, the port's decision (R66, R113). -/
def dueInstant (s : State) : Option State :=
  (dueUrgent s).or <| if s.por then none else (rowPresentedOrGrant s).map State.afterEvent

/-- Every step that is due: also an input seen with a debounce time of 0 (R107) and a hand-over (R55, R145), both
before the port decides (R132). An input that becomes live at the moment that brings an urgent step (an entry to CLEARING,
an unmasking commit) could by R107 be seen before that step: the model takes the step first (assumption log 36). -/
def dueAny (s : State) : Option State :=
  (dueUrgent s).or <|
    if s.por then none
    else ((rowSeenAtOnce s).or <| (rowHandOver s).or (rowPresentedOrGrant s)).map State.afterEvent

/-- Take due steps, at most `n`, until none is due. -/
def settle (due : State → Option State) : Nat → State → State
  | 0, s => s
  | n + 1, s =>
    match due s with
    | none => s
    | some t => settle due n t

/-- More steps than can be due one after another: each takes a record from the capture list, or is one of
the few that a hand-over, or the state the part stands in, brings about. -/
def dueBound (s : State) : Nat := s.capture.records.length + 31 * s.control.handOvers.length + 63

/-- A row comes about: first the steps that are due before it, then the row, then the idle count and QUIET. A row
that cannot come about in the state reached changes nothing (assumption log 1). -/
def occur (due : State → Option State) (row : State → Option State) (s : State) :
    Host.Outcome State Fault Refusal :=
  let t := settle due (dueBound s + 1) s
  match row t with
  | some u => .next u.afterEvent
  | none => .next t

/-- No step is due. -/
def dueNone (_ : State) : Option State := none

/-- A row that cannot come about while POR is asserted (R122; assumption log 15). -/
def running (row : State → Option State) (s : State) : Option State := if s.por then none else row s

end Sys2Proof.Machine
end

