-- ==== Sys2Proof/Machine/Rows.lean ====
section
/-! DEFINITION. The meaning of every row of spec/opcode_table.json: the steps due before it, then the row
(Machine/Urgent.lean). A row that is itself a step due at once, or POR, waits for nothing. A hand-over's row and
GRANT_DECISION wait for the urgent steps only, because the port's decision at a completion and the command that the
same completion hands over may be taken in either order (R113, R132); that a hand-over's row waits for the urgent steps
is the model's choice (R68; assumption log 38). SYSCLR, the completions, the expiries and the
seen inputs that the manual lets fall together with a hand-over wait for the urgent steps, a presented cycle and
the port's decision (R99, R106, R132, R149). Every other row waits for every due step. -/

namespace Sys2Proof.Machine

/-- POR_ASSERT (R51, R95, R122, R155). -/
def execPorAssert (s : State) : Host.Outcome State Fault Refusal :=
  occur dueNone rowPorAssert s

/-- POR_END (R119, R122, R140, R149, R155). -/
def execPorEnd (straps : BitVec 2) (s : State) : Host.Outcome State Fault Refusal :=
  occur dueNone (rowPorEnd straps) s

/-- SYSCLR (R66, R111, R121, R134, R149, R156). -/
def execSysclr (s : State) : Host.Outcome State Fault Refusal :=
  occur dueInstant rowSysclr s

/-- SYSCLR_NEGATE (R66). -/
def execSysclrNegate (s : State) : Host.Outcome State Fault Refusal :=
  occur dueAny rowSysclrNegate s

/-- BUS_READ (R51). -/
def execBusRead (address : Addr) (s : State) : Host.Outcome State Fault Refusal :=
  occur dueAny (rowBusRead address) s

/-- BUS_WRITE (R51, R53, R58). -/
def execBusWrite (address : Addr) (ubs lbs : Bool) (data : Word) (s : State) : Host.Outcome State Fault Refusal :=
  occur dueAny (rowBusWrite address ubs lbs data) s

/-- STALL_EXPIRY (R60). -/
def execStallExpiry (s : State) : Host.Outcome State Fault Refusal :=
  occur dueAny (running rowStallExpiry) s

/-- HELD_WRITE_PLACED (R59, R60). -/
def execHeldWritePlaced (s : State) : Host.Outcome State Fault Refusal :=
  occur dueNone (running rowHeldWritePlaced) s

/-- PASSTHROUGH_READ_DONE (R51). -/
def execPassthroughReadDone (s : State) : Host.Outcome State Fault Refusal :=
  occur dueAny (running rowPassthroughReadDone) s

/-- PASSTHROUGH_WRITE_DONE (R52–R55, R62, R63). -/
def execPassthroughWriteDone (s : State) : Host.Outcome State Fault Refusal :=
  occur dueAny (running rowPassthroughWriteDone) s

/-- STAGED_WRITE (R139). -/
def execStagedWrite (s : State) : Host.Outcome State Fault Refusal :=
  occur dueUrgent (running rowStagedWrite) s

/-- COMMIT (R141, R145). -/
def execCommit (s : State) : Host.Outcome State Fault Refusal :=
  occur dueUrgent (running rowCommit) s

/-- RESTART_PANEL (R146, R97, R101). -/
def execRestartPanel (s : State) : Host.Outcome State Fault Refusal :=
  occur dueUrgent (running rowRestartPanel) s

/-- STOP_PANEL (R146, R105). -/
def execStopPanel (s : State) : Host.Outcome State Fault Refusal :=
  occur dueUrgent (running rowStopPanel) s

/-- CLEAR_FAULTS (R146, R110). -/
def execClearFaults (s : State) : Host.Outcome State Fault Refusal :=
  occur dueUrgent (running rowClearFaults) s

/-- RELEASE (R147). -/
def execRelease (s : State) : Host.Outcome State Fault Refusal :=
  occur dueUrgent (running rowRelease) s

/-- START_COPY (R123, R125). -/
def execStartCopy (s : State) : Host.Outcome State Fault Refusal :=
  occur dueUrgent (running rowStartCopy) s

/-- CANCEL_COPY (R132). -/
def execCancelCopy (s : State) : Host.Outcome State Fault Refusal :=
  occur dueUrgent (running rowCancelCopy) s

/-- RESWEEP_ALL (R146, R74); a RESWEEP take that is due comes before its mark (R68; assumption log 38). -/
def execResweepAll (s : State) : Host.Outcome State Fault Refusal :=
  occur dueUrgent (running rowResweepAll) s

/-- REPORT_NOW (R147). -/
def execReportNow (s : State) : Host.Outcome State Fault Refusal :=
  occur dueUrgent (running rowReportNow) s

/-- UNKNOWN_COMMAND (R145). -/
def execUnknownCommand (s : State) : Host.Outcome State Fault Refusal :=
  occur dueUrgent (running rowUnknownCommand) s

/-- COMMIT_APPLY (R41, R143, R144). -/
def execCommitApply (s : State) : Host.Outcome State Fault Refusal :=
  occur dueNone (running rowCommitApply) s

/-- CAPTURE_ITEM (R40, R44). -/
def execCaptureItem (s : State) : Host.Outcome State Fault Refusal :=
  occur dueNone (running rowCaptureItem) s

/-- RESWEEP_ITEM (R40, R45, R71). -/
def execResweepItem (s : State) : Host.Outcome State Fault Refusal :=
  occur dueNone (running rowResweepItem) s

/-- WIPE_ITEM (R47). -/
def execWipeItem (s : State) : Host.Outcome State Fault Refusal :=
  occur dueNone (running rowWipeItem) s

/-- FREE_ENTRY_WAIT_END (R42). -/
def execFreeEntryWaitEnd (s : State) : Host.Outcome State Fault Refusal :=
  occur dueNone (running rowFreeEntryWaitEnd) s

/-- PICTURE_READ_DONE (R45, R77). -/
def execPictureReadDone (s : State) : Host.Outcome State Fault Refusal :=
  occur dueAny (running rowPictureReadDone) s

/-- CELL_WORD_READ_DONE (R43). -/
def execCellWordReadDone (s : State) : Host.Outcome State Fault Refusal :=
  occur dueAny (running rowCellWordReadDone) s

/-- WRITE_BACK_DONE (R33, R43). -/
def execWriteBackDone (s : State) : Host.Outcome State Fault Refusal :=
  occur dueAny (running rowWriteBackDone) s

/-- WIPE_WRITE_DONE (R47). -/
def execWipeWriteDone (s : State) : Host.Outcome State Fault Refusal :=
  occur dueInstant (running rowWipeWriteDone) s

/-- SUSTAIN_CYCLE_START (R82, R85–R88, R94). -/
def execSustainCycleStart (s : State) : Host.Outcome State Fault Refusal :=
  occur dueInstant (running rowSustainCycleStart) s

/-- PHASE_B_START (R82). -/
def execPhaseBStart (s : State) : Host.Outcome State Fault Refusal :=
  occur dueAny (running rowPhaseBStart) s

/-- ADDRESS_PULSE_START (R92). -/
def execAddressPulseStart (s : State) : Host.Outcome State Fault Refusal :=
  occur dueAny (running rowAddressPulseStart) s

/-- ADDRESS_PULSE_END (R92). -/
def execAddressPulseEnd (s : State) : Host.Outcome State Fault Refusal :=
  occur dueAny (running rowAddressPulseEnd) s

/-- RAMP_TICK (R83). -/
def execRampTick (s : State) : Host.Outcome State Fault Refusal :=
  occur dueAny (running rowRampTick) s

/-- FAULT_INPUT_CHANGE (R106). -/
def execFaultInputChange (input : FaultInput) (level : Bool) (s : State) : Host.Outcome State Fault Refusal :=
  occur dueAny (rowFaultInputChange input level) s

/-- HVOK_SEEN (R97, R98). -/
def execHvokSeen (s : State) : Host.Outcome State Fault Refusal :=
  occur dueInstant (running rowHvokSeen) s

/-- HVOK_LOST (R106, R109, R102). -/
def execHvokLost (s : State) : Host.Outcome State Fault Refusal :=
  occur dueInstant (running rowHvokLost) s

/-- HVOC_SEEN (R97, R106, R109, R102). -/
def execHvocSeen (s : State) : Host.Outcome State Fault Refusal :=
  occur dueInstant (running rowHvocSeen) s

/-- GROUP_STRIKE (R108, R109, R102). -/
def execGroupStrike (axis : Axis) (g : Nat) (s : State) : Host.Outcome State Fault Refusal :=
  occur dueInstant (running (rowGroupStrike axis g)) s

/-- CHARGE_TIMEOUT (R97, R109, R102). -/
def execChargeTimeout (s : State) : Host.Outcome State Fault Refusal :=
  occur dueInstant (running rowChargeTimeout) s

/-- REST_END (R103). -/
def execRestEnd (s : State) : Host.Outcome State Fault Refusal :=
  occur dueInstant (running rowRestEnd) s

/-- LIT_DURATION_EXPIRY (R100). -/
def execLitDurationExpiry (s : State) : Host.Outcome State Fault Refusal :=
  occur dueInstant (running rowLitDurationExpiry) s

/-- REFRESH_DUE (R116). -/
def execRefreshDue (s : State) : Host.Outcome State Fault Refusal :=
  occur dueAny (running rowRefreshDue) s

/-- REFRESH_DONE (R116). -/
def execRefreshDone (s : State) : Host.Outcome State Fault Refusal :=
  occur dueAny (running rowRefreshDone) s

/-- GRANT_DECISION (R112, R113). -/
def execGrantDecision (s : State) : Host.Outcome State Fault Refusal :=
  occur dueUrgent (running rowGrantDecision) s

/-- REPORT_BLOCK_GRANT (R154). -/
def execReportBlockGrant (s : State) : Host.Outcome State Fault Refusal :=
  occur dueNone (running rowReportBlockGrant) s

/-- REPORT_BLOCK_DONE (R118, R154). -/
def execReportBlockDone (s : State) : Host.Outcome State Fault Refusal :=
  occur dueAny (running rowReportBlockDone) s

/-- IMAGE_GRANT_DONE (R119, R155). -/
def execImageGrantDone (s : State) : Host.Outcome State Fault Refusal :=
  occur dueAny (running rowImageGrantDone) s

/-- COPY_READ_DONE (R126, R127, R132). -/
def execCopyReadDone (s : State) : Host.Outcome State Fault Refusal :=
  occur dueInstant (running rowCopyReadDone) s

/-- COPY_PLACE_GIVEN (R59, R129). -/
def execCopyPlaceGiven (s : State) : Host.Outcome State Fault Refusal :=
  occur dueNone (running rowCopyPlaceGiven) s

/-- COPY_WRITE_DONE (R128, R130). -/
def execCopyWriteDone (s : State) : Host.Outcome State Fault Refusal :=
  occur dueInstant (running rowCopyWriteDone) s

end Sys2Proof.Machine
end

