-- ==== Sys2Proof/Machine/Dispatch.lean ====
section
/-! DEFINITION. One arm for each constructor of Instr: the row's meaning. -/

namespace Sys2Proof.Machine

/-- The effect of a row of spec/opcode_table.json on everything but the queue. -/
def exec (i : Instr) (s : State) : Host.Outcome State Fault Refusal :=
  match i with
  | .porAssert => Sys2Proof.Machine.execPorAssert s
  | .porEnd straps => Sys2Proof.Machine.execPorEnd straps s
  | .sysclr => Sys2Proof.Machine.execSysclr s
  | .sysclrNegate => Sys2Proof.Machine.execSysclrNegate s
  | .busRead address => Sys2Proof.Machine.execBusRead address s
  | .busWrite address ubs lbs data => Sys2Proof.Machine.execBusWrite address ubs lbs data s
  | .stallExpiry => Sys2Proof.Machine.execStallExpiry s
  | .heldWritePlaced => Sys2Proof.Machine.execHeldWritePlaced s
  | .passthroughReadDone => Sys2Proof.Machine.execPassthroughReadDone s
  | .passthroughWriteDone => Sys2Proof.Machine.execPassthroughWriteDone s
  | .stagedWrite => Sys2Proof.Machine.execStagedWrite s
  | .commit => Sys2Proof.Machine.execCommit s
  | .restartPanel => Sys2Proof.Machine.execRestartPanel s
  | .stopPanel => Sys2Proof.Machine.execStopPanel s
  | .clearFaults => Sys2Proof.Machine.execClearFaults s
  | .release => Sys2Proof.Machine.execRelease s
  | .startCopy => Sys2Proof.Machine.execStartCopy s
  | .cancelCopy => Sys2Proof.Machine.execCancelCopy s
  | .resweepAll => Sys2Proof.Machine.execResweepAll s
  | .reportNow => Sys2Proof.Machine.execReportNow s
  | .unknownCommand => Sys2Proof.Machine.execUnknownCommand s
  | .commitApply => Sys2Proof.Machine.execCommitApply s
  | .captureItem => Sys2Proof.Machine.execCaptureItem s
  | .resweepItem => Sys2Proof.Machine.execResweepItem s
  | .wipeItem => Sys2Proof.Machine.execWipeItem s
  | .freeEntryWaitEnd => Sys2Proof.Machine.execFreeEntryWaitEnd s
  | .pictureReadDone => Sys2Proof.Machine.execPictureReadDone s
  | .cellWordReadDone => Sys2Proof.Machine.execCellWordReadDone s
  | .writeBackDone => Sys2Proof.Machine.execWriteBackDone s
  | .wipeWriteDone => Sys2Proof.Machine.execWipeWriteDone s
  | .sustainCycleStart => Sys2Proof.Machine.execSustainCycleStart s
  | .phaseBStart => Sys2Proof.Machine.execPhaseBStart s
  | .addressPulseStart => Sys2Proof.Machine.execAddressPulseStart s
  | .addressPulseEnd => Sys2Proof.Machine.execAddressPulseEnd s
  | .rampTick => Sys2Proof.Machine.execRampTick s
  | .faultInputChange input level => Sys2Proof.Machine.execFaultInputChange input level s
  | .hvokSeen => Sys2Proof.Machine.execHvokSeen s
  | .hvokLost => Sys2Proof.Machine.execHvokLost s
  | .hvocSeen => Sys2Proof.Machine.execHvocSeen s
  | .groupStrike axis g => Sys2Proof.Machine.execGroupStrike axis g s
  | .chargeTimeout => Sys2Proof.Machine.execChargeTimeout s
  | .restEnd => Sys2Proof.Machine.execRestEnd s
  | .litDurationExpiry => Sys2Proof.Machine.execLitDurationExpiry s
  | .refreshDue => Sys2Proof.Machine.execRefreshDue s
  | .refreshDone => Sys2Proof.Machine.execRefreshDone s
  | .grantDecision => Sys2Proof.Machine.execGrantDecision s
  | .reportBlockGrant => Sys2Proof.Machine.execReportBlockGrant s
  | .reportBlockDone => Sys2Proof.Machine.execReportBlockDone s
  | .imageGrantDone => Sys2Proof.Machine.execImageGrantDone s
  | .copyReadDone => Sys2Proof.Machine.execCopyReadDone s
  | .copyPlaceGiven => Sys2Proof.Machine.execCopyPlaceGiven s
  | .copyWriteDone => Sys2Proof.Machine.execCopyWriteDone s

end Sys2Proof.Machine
end

