-- ==== Sys2Proof/Safety.lean ====
section
/-! DEFINITION. What always holds of the part: one invariant for each block or group of blocks, each a property
that the manual states and that every step keeps. -/

namespace Sys2Proof.Machine

/-! ### When a row comes about with nothing due before it -/

/-- POR is negated and no step of any kind is due. -/
def State.Ready (s : State) : Prop := s.por = false ∧ dueAny s = none

/-- POR is negated and no urgent step is due. -/
def State.ReadyUrgent (s : State) : Prop := s.por = false ∧ dueUrgent s = none

/-- POR is negated, no urgent step and no cycle still presented is due, and the port has no decision to make. A
hand-over or an input seen may be due. -/
def State.ReadyInstant (s : State) : Prop := s.por = false ∧ dueInstant s = none

/-! ### What the entries to the panel states do to the blocks -/

/-- Every condition of QUIET together (R151; the idle render stage holds no item and no commit waits for it,
assumption log 18). -/
structure State.AllQuiet (s : State) : Prop where
  lit : s.seq.panel = .lit
  armed : s.report.quietArmed = true
  records : s.capture.records = []
  reservations : s.capture.reservations = 0
  noLineInHand : s.stale.posWord = 0
  noFlag : ∀ l : Fin 512, s.stale.lines[l].stale = false
  queue : s.queue = []
  item : s.render.item = none
  commit : s.control.checked = none

/-- A report was made due between `s` and `t`, and a block asked for when the block state was IDLE (R153). -/
structure State.ReportMade (s t : State) : Prop where
  due : t.report.due = true
  asked : s.report.block = .idle → t.report.block = .waiting ∧ t.port.reportWaiting = some .block
  covered : s.report.block ≠ .idle → t.report.block = s.report.block ∧ t.port.reportWaiting = s.port.reportWaiting

/-- Between `s` and `t` the queue, the capture list and the render stage lost their work, and a bus write that
held a place or waited for one goes on without it (R37, R46, R57, R64, R66, R69, R120). -/
structure State.WorkEmptied (s t : State) : Prop where
  queue : t.queue = []
  list : t.capture = { s.capture with records := [], reservations := 0 }
  holds : ∀ l : Fin 512, t.stale.lines[l].hold = 0
  item : t.render.item = none ∧ t.render.captureCount = 0
  /-- a HELD write stops waiting and asks for its access -/
  held : ∀ a lanes data, s.passage.inHand = some (.write a lanes data .held) →
    t.passage = { s.passage with inHand := some (.write a lanes data .unplaced), stallTimer := none } ∧
      t.port.passWaiting = true
  /-- a PLACED write loses its reservation -/
  placed : ∀ a lanes data, s.passage.inHand = some (.write a lanes data .placed) →
    t.passage = { s.passage with inHand := some (.write a lanes data .unplaced) } ∧
      t.port.passWaiting = s.port.passWaiting
  other : (∀ a lanes data, s.passage.inHand ≠ some (.write a lanes data .held)) →
    (∀ a lanes data, s.passage.inHand ≠ some (.write a lanes data .placed)) →
    t.passage = s.passage ∧ t.port.passWaiting = s.port.passWaiting
  /-- a render request is withdrawn, a granted access completes for nobody -/
  withdrawn : t.port.renderWaiting = none
  granted : ∀ a owned, s.port.current = some (.render a owned) → t.port.current = some (.render a false)

/-- A copy that waited for a place makes its write without one, and a PLACED one loses its reservation; any
other goes on as it stood (R64, R129, R131). -/
structure State.CopyLetGo (s t : State) : Prop where
  waiting : ∀ w, s.copy.step = .waitPlace w → t.copy = { s.copy with step := .destWrite w .unplaced } ∧
    t.port.copyWaiting = some (.write s.copy.destAddress w)
  placed : ∀ w, s.copy.step = .destWrite w .placed → t.copy = { s.copy with step := .destWrite w .unplaced } ∧
    t.port.copyWaiting = s.port.copyWaiting
  other : (∀ w, s.copy.step ≠ .waitPlace w) → (∀ w, s.copy.step ≠ .destWrite w .placed) →
    t.copy = s.copy ∧ t.port.copyWaiting = s.port.copyWaiting

/-- The supply and the sustain are off, the pulse is cut short, and the charge and LIT-duration timers and every
debounce timer are stopped (R81, R93, R102, R105, R111). -/
structure State.SwitchedOff (s t : State) : Prop where
  hven : t.seq.hven = false
  sustain : t.address = { s.address with running := false, phase := .notBegun, tick := none, pulse := none }
  timers : t.seq.chargeTimer = none ∧ t.seq.litTimer = none
  debounce : t.seq.debounceHvok = none ∧ t.seq.debounceHvoc = none ∧ ∀ axis g, t.seq.groupTimer axis g = none

/-- What no entry to a panel state changes: memory, the sets of parameters, the counts, the input levels, the
refresh, the wipe position apart. -/
structure State.EntryKeeps (s t : State) : Prop where
  memory : t.dram = s.dram ∧ t.dramEpoch = s.dramEpoch
  pins : t.por = s.por ∧ t.straps = s.straps ∧ t.pending = s.pending
  standing : t.standing = s.standing
  inputs : t.seq.hvok = s.seq.hvok ∧ t.seq.hvoc = s.seq.hvoc ∧ t.seq.gfx = s.seq.gfx ∧ t.seq.gfy = s.seq.gfy
  refresh : t.port.refreshWaiting = s.port.refreshWaiting ∧ t.port.pendingRefresh = s.port.pendingRefresh ∧
    t.port.refreshTimer = s.port.refreshTimer ∧ t.port.refreshRow = s.port.refreshRow
  decision : t.port.deciding = s.port.deciding ∧ t.port.ties = s.port.ties
  /-- a grant that is not the render stage's or the copy engine's goes on -/
  grant : (∀ a o, s.port.current ≠ some (.render a o)) → (∀ a o, s.port.current ≠ some (.copy a o)) →
    t.port.current = s.port.current
  count : t.report.writeCount = s.report.writeCount

/-- What every entry to CLEARING does (R98, R101, R75, R47, R94). -/
structure State.EntersClearing (s t : State) : Prop where
  panel : t.seq.panel = .clearing
  flags : t.seq.erasesDone = false ∧ t.seq.wipeDone = false
  timers : t.seq.chargeTimer = none ∧ t.seq.litTimer = none ∧ t.seq.restTimer = s.seq.restTimer
  emptied : s.WorkEmptied t
  copy : s.CopyLetGo t
  copyGrant : ∀ a o, s.port.current = some (.copy a o) → t.port.current = some (.copy a o)
  stale : t.stale = StaleSet.allSet
  wipe : t.render.wipePosition = 0
  erases : t.address.globalErases = 0
  /-- the counts, the group sets and HVEN are kept -/
  sequencer : t.seq.hven = s.seq.hven ∧ t.seq.recoveryCount = s.seq.recoveryCount ∧ t.seq.faults = s.seq.faults ∧
    t.seq.strikeX = s.seq.strikeX ∧ t.seq.strikeY = s.seq.strikeY ∧ t.seq.outX = s.seq.outX ∧ t.seq.outY = s.seq.outY ∧
    t.seq.debounceHvoc = s.seq.debounceHvoc
  due : s.ReportMade t
  report : t.report.causes = s.report.causes ∧ t.report.quietArmed = s.report.quietArmed ∧ t.report.atn = s.report.atn
  control : t.control = s.control
  sysclr : t.sysclr = s.sysclr
  keeps : s.EntryKeeps t

/-- A soft restart (R101, R81): CLEARING is entered again while the sustain and the debounce timers run on. -/
structure State.SoftRestarts (s t : State) : Prop where
  entry : s.EntersClearing t
  sustain : t.address = { s.address with
    globalErases := 0, currentA := s.standing.phaseA, currentB := s.standing.phaseB }
  debounce : t.seq.debounceHvok = s.seq.debounceHvok ∧ ∀ axis g, t.seq.groupTimer axis g = s.seq.groupTimer axis g
  glass : t.glass = s.glass

/-- The entry to DARK by STOP PANEL or SYSCLR (R105, R111, R67). -/
structure State.EntersDark (s t : State) : Prop where
  panel : t.seq.panel = .dark
  count : t.seq.recoveryCount = 0
  off : s.SwitchedOff t
  rest : t.seq.restTimer = none
  flags : t.seq.erasesDone = false ∧ t.seq.wipeDone = false
  /-- the fault set and the group sets are kept -/
  sets : t.seq.faults = s.seq.faults ∧ t.seq.strikeX = s.seq.strikeX ∧ t.seq.strikeY = s.seq.strikeY ∧
    t.seq.outX = s.seq.outX ∧ t.seq.outY = s.seq.outY
  emptied : s.WorkEmptied t
  stale : t.stale = StaleSet.clear
  wipe : t.render.wipePosition = s.render.wipePosition
  due : s.ReportMade t
  keeps : s.EntryKeeps t

/-- A recovery for the fault kind `k` (R102, R109). -/
structure State.Recovers (k : FaultKind) (s t : State) : Prop where
  count : t.seq.recoveryCount = s.seq.recoveryCount + 1
  /-- a count below 5 rests; a count of 5 is barred, with RECOVERY LIMIT in the fault set -/
  rests : s.seq.recoveryCount + 1 < 5 → t.seq.panel = .resting ∧ t.seq.restTimer = some 120000 ∧
    t.seq.faults = s.seq.faults ||| k.bit
  bars : s.seq.recoveryCount + 1 = 5 → t.seq.panel = .barred ∧ t.seq.restTimer = s.seq.restTimer ∧
    t.seq.faults = s.seq.faults ||| k.bit ||| FaultKind.recoveryLimit.bit
  /-- FAULT is pending, ATN is decided again and a report is due -/
  causes : t.report.causes = s.report.causes ||| Cause.fault.bit
  atn : t.report.atn = decide (t.report.causes &&& s.standing.enables ≠ 0)
  due : s.ReportMade t
  off : s.SwitchedOff t
  emptied : s.WorkEmptied t
  copy : s.CopyLetGo t
  copyGrant : ∀ a o, s.port.current = some (.copy a o) → t.port.current = some (.copy a o)
  /-- the stale set keeps its flags and position -/
  stale : t.stale.posLine = s.stale.posLine ∧ t.stale.posWord = s.stale.posWord ∧
    ∀ l : Fin 512, t.stale.lines[l].stale = s.stale.lines[l].stale
  flags : t.seq.erasesDone = s.seq.erasesDone ∧ t.seq.wipeDone = s.seq.wipeDone
  wipe : t.render.wipePosition = s.render.wipePosition
  control : t.control = s.control
  sysclr : t.sysclr = s.sysclr
  quiet : t.report.quietArmed = s.report.quietArmed
  keeps : s.EntryKeeps t

/-! ### Memory and outputs -/

/-- DRAM is in its canonical form. -/
def State.MemoryOk (s : State) : Prop := Memory.wf s.dram = true

/-- ATN and HVEN are what R152, R155 and R95 say of them. -/
structure State.OutputsOk (s : State) : Prop where
  /-- R152: ATN is asserted exactly when some pending cause is also enabled; R155: negated during POR -/
  atn : s.report.atn = (!s.por && decide (s.report.causes &&& s.standing.enables ≠ 0))
  /-- R95: HVEN is on in CHARGING, CLEARING and LIT, and off in the other states and during POR -/
  hven : s.seq.hven = (!s.por && s.seq.panel.powered)

/-- The passage (R51, R58–R60, R66). -/
structure State.PassageOk (s : State) : Prop where
  /-- RDY is high exactly when no cycle is in hand or presented, and POR is negated -/
  rdy : s.passage.rdy = (!s.por && s.passage.inHand.isNone && s.passage.presented.isNone)
  /-- one cycle at a time -/
  single : s.passage.inHand.isSome = true → s.passage.presented = none
  /-- the stall timer runs exactly while a write is HELD -/
  stall : s.passage.stallTimer.isSome = s.passage.holds
  /-- a cycle in hand that is not HELD has its one passthrough access waiting or granted -/
  request : s.por = false →
    ((s.port.passWaiting = true ∨ s.port.current = some .passthrough) ↔
      (s.passage.inHand.isSome = true ∧ s.passage.holds = false))
  /-- it is not both waiting and granted -/
  once : s.por = false → ¬(s.port.passWaiting = true ∧ s.port.current = some .passthrough)

/-! ### Memory port -/

/-- The memory port (R112, R113, R116). -/
structure State.PortOk (s : State) : Prop where
  /-- a decision is made with no grant in progress -/
  deciding : s.por = false → s.port.deciding = true → s.port.current = none
  /-- a refresh is pending from the moment it falls due to the completion of its grant (log 10) -/
  refresh : s.por = false → (s.port.pendingRefresh = true ↔
    (s.port.refreshWaiting = true ∨ s.port.current = some .refresh))
  /-- the refresh timer runs without stopping from the end of POR -/
  timer : s.por = false → s.port.refreshTimer = some 14

/-! ### Sequencer -/

/-- The sequencer's counts, sets and timers (R95, R99, R102–R104, R108). -/
structure State.SequencerOk (s : State) : Prop where
  /-- the recovery count never exceeds 5 -/
  count : s.seq.recoveryCount ≤ 5
  /-- the sequencer is BARRED whenever the count is 5 -/
  limit : s.seq.recoveryCount = 5 → s.seq.panel = .barred
  /-- BARRED is entered at a count of 5 or with an axis wholly out of service -/
  barred : s.seq.panel = .barred → s.seq.recoveryCount = 5 ∨ s.seq.axisOut = true
  /-- the charge timer runs exactly in CHARGING -/
  charge : s.seq.chargeTimer.isSome = decide (s.seq.panel = .charging)
  /-- the rest timer runs exactly in RESTING -/
  rest : s.seq.restTimer.isSome = decide (s.seq.panel = .resting)
  /-- the LIT-duration timer runs only in LIT -/
  lit : s.seq.litTimer.isSome = true → s.seq.panel = .lit
  /-- LIT is entered when both completions have been reported -/
  completed : s.seq.panel = .lit → s.seq.erasesDone = true ∧ s.seq.wipeDone = true
  /-- CLEARING is left at the second completion -/
  clearing : s.seq.panel = .clearing → ¬(s.seq.erasesDone = true ∧ s.seq.wipeDone = true)
  /-- the one-strike set and the out-of-service set never share a group -/
  groupsX : s.seq.strikeX &&& s.seq.outX = 0
  groupsY : s.seq.strikeY &&& s.seq.outY = 0

/-- A debounce timer runs only for an input that is live and at its active level (R106, R108). -/
structure State.DebounceOk (s : State) : Prop where
  hvok : s.por = false → s.seq.debounceHvok.isSome = true → hvokActive s.seq.panel s.seq.hvok = true
  hvoc : s.por = false → s.seq.debounceHvoc.isSome = true → s.seq.panel.powered = true ∧ s.seq.hvoc = true
  group : s.por = false → ∀ axis g, (s.seq.groupTimer axis g).isSome = true →
    s.seq.groupLive s.standing axis g = true ∧ (s.seq.inputs axis).getLsbD g = true

/-! ### Parameter sets -/

/-- What every committed set satisfies (R1, R6, R15–R17, R18–R24, R61, R83, R84, R89, R90, R107, R142). -/
structure ParamSet.Valid (p : ParamSet) (straps : BitVec 2) : Prop where
  base : p.base ≤ 262143
  pitch : 1 ≤ p.pitch ∧ p.pitch ≤ 1024
  width : 1 ≤ p.width ∧ p.width ≤ 2048 ∧ p.width ≤ p.pitch * p.format.perWord
  height : 1 ≤ p.height ∧ p.height ≤ 2048 ∧ p.base + p.height * p.pitch ≤ 262144
  origin : p.originX ≤ 2047 ∧ p.originY ≤ 2047
  step : (4 ≤ p.stepX ∧ p.stepX ≤ 64) ∧ 4 ≤ p.stepY ∧ p.stepY ≤ 64
  tone : p.margin ≤ 16 ∧ ∀ t : Fin 16, p.toneMap[t] ≤ 16
  dither : p.fixedThreshold ≤ 15 ∧ ∀ i : Fin 16, p.matrix[i] ≤ 15
  cursor : p.cursorLine ≤ 511 ∧ p.cursorColumn ≤ 511 ∧ p.thicknessH ≤ 15 ∧ p.thicknessV ≤ 15
  sustain : (32 ≤ p.phaseA ∧ p.phaseA ≤ 128) ∧ (32 ≤ p.phaseB ∧ p.phaseB ≤ 128) ∧ p.rampSelect ≤ 4
  pulse : (4 ≤ p.addressDelay ∧ p.addressDelay ≤ 24) ∧ 8 ≤ p.addressWidth ∧ p.addressWidth ≤ 32
  other : (1 ≤ p.gatherWindow ∧ p.gatherWindow ≤ 32) ∧ p.stallLimit ≤ 15 ∧ p.debounce ≤ 3 ∧ p.planeBlock ≤ 15
  /-- the picture area, the cell plane and the control page share no word -/
  disjoint : p.overlaps straps = false

/-- The standing set and a checked set that waits are valid. -/
structure State.SetsOk (s : State) : Prop where
  standing : s.standing.Valid s.straps
  checked : ∀ p, s.control.checked = some p → p.Valid s.straps

/-! ### Address stage -/

/-- The sustain runs exactly in CLEARING and LIT; every pulse lies inside its phase A (R80–R84, R91, R94). -/
structure State.AddressOk (s : State) : Prop where
  sets : s.SetsOk
  running : s.por = false → s.address.running = s.seq.panel.addressed
  stopped : s.address.running = false →
    s.address.phase = .notBegun ∧ s.address.tick = none ∧ s.address.pulse = none
  current : (32 ≤ s.address.currentA ∧ s.address.currentA ≤ 128) ∧ 32 ≤ s.address.currentB ∧ s.address.currentB ≤ 128
  cycle : (32 ≤ s.address.cycleA ∧ s.address.cycleA ≤ 128) ∧ 32 ≤ s.address.cycleB ∧ s.address.cycleB ≤ 128
  /-- R91: a pulse starts at least half a microsecond into phase A and ends as much before its end -/
  pulse : ∀ p, s.address.pulse = some p →
    s.address.phase = .a ∧ 4 ≤ p.delay ∧ 8 ≤ p.width ∧ p.delay + p.width + 4 ≤ s.address.cycleA
  /-- R86: a burst has at least one and at most 32 columns -/
  burst : ∀ p line kind columns, s.address.pulse = some p → p.op = .burst line kind columns →
    columns ≠ [] ∧ columns.length ≤ 32
  erases : s.address.globalErases ≤ 8

/-! ### Capture list and stale set -/

/-- The passage's write holds a place (R58). -/
def Passage.placed (p : Passage) : Bool :=
  match p.inHand with
  | some (.write _ _ _ .placed) => true
  | _ => false

/-- The copy engine's write holds a place (R65). -/
def CopyEngine.placed (c : CopyEngine) : Bool := decide (c.decision = .placed)

/-- The capture list and the holds that count on it (R57, R67–R69). -/
structure State.CaptureOk (s : State) : Prop where
  /-- records plus reservations never exceed 16 -/
  places : s.por = false → s.capture.records.length + s.capture.reservations ≤ 16
  /-- each reservation belongs to one write that has not completed -/
  reserved : s.por = false →
    s.capture.reservations = (if s.passage.placed then 1 else 0) + (if s.copy.placed then 1 else 0)
  /-- the list is empty, and nobody waits for a place, whenever the sequencer is not LIT -/
  outside : s.por = false → s.seq.panel ≠ .lit → s.capture.records = [] ∧ s.capture.reservations = 0 ∧
    s.passage.holds = false ∧ s.copy.waits = false
  /-- a hold never exceeds the depth of the list -/
  holds : s.por = false → ∀ l : Fin 512, s.stale.lines[l].hold ≤ s.capture.records.length
  /-- a copy that is not active holds no position -/
  ended : s.copy.outcome ≠ .active → s.copy.step = .none

/-! ### Queue, render stage and resweep position -/

/-- The cell word lies on the panel. -/
def CellWord.onPanel (c : CellWord) : Prop := c.line < 512 ∧ c.index < 32

/-- What a render item may hold beside a queue of `depth` orders (R42, R44, R45). -/
def RenderItem.Fits (depth : Nat) : RenderItem → Prop
  | .capture _ c rest stage =>
    c.onPanel ∧ (∀ d ∈ rest, d.onPanel) ∧ (stage = .cellRead → depth ≤ 240)
  | .resweep c _ _ stage => c.onPanel ∧ (stage = .cellRead ∨ stage = .pictureRead → depth ≤ 240)
  | .wipe _ => True

/-- The change queue, the item in hand and the resweep position (R34, R42, R67). -/
structure State.QueueOk (s : State) : Prop where
  /-- never more than 256 orders -/
  depth : s.queue.length ≤ 256
  /-- never two orders for the same cell -/
  distinct : (s.queue.map fun o => (o.column, o.line)).Nodup
  cells : ∀ o ∈ s.queue, o.column < 512 ∧ o.line < 512
  /-- outside LIT the queue is empty -/
  outside : s.seq.panel ≠ .lit → s.queue = []
  item : ∀ i, s.render.item = some i → i.Fits s.queue.length
  /-- CAPTURE and RESWEEP items are in hand only in LIT -/
  lit : ∀ i, s.render.item = some i → i.cell?.isSome = true → s.seq.panel = .lit
  position : s.stale.posLine < 512 ∧ s.stale.posWord < 32

/-! ### Requests -/

/-- The access an item in hand waits for: none while it waits for free entries (R42, R43, R45, R47). -/
def RenderItem.access? (p : ParamSet) : RenderItem → Option RenderAccess
  | .capture _ c _ .cellRead => some (.readCell (p.cellAddress c))
  | .capture _ c _ (.writeBack w) => some (.writeBack (p.cellAddress c) w)
  | .resweep c _ _ .cellRead => some (.readCell (p.cellAddress c))
  | .resweep c _ _ (.writeBack w) => some (.writeBack (p.cellAddress c) w)
  | .resweep _ _ (a :: _) .pictureRead => some (.readPicture a)
  | .wipe a => some (.wipe a)
  | _ => none

/-- The render access in progress that its item still waits for. -/
def MemoryPort.renderGranted (p : MemoryPort) : Option RenderAccess :=
  match p.current with
  | some (.render a true) => some a
  | _ => none

/-- The copy access in progress that the copy still waits for. -/
def MemoryPort.copyGranted (p : MemoryPort) : Option CopyAccess :=
  match p.current with
  | some (.copy a true) => some a
  | _ => none

/-- The render stage's item has its one access waiting or granted (R39, R43, R46, R112). -/
structure State.RenderOk (s : State) : Prop where
  idle : s.por = false → s.render.item = none → s.port.renderWaiting = none ∧ s.port.renderGranted = none
  access : s.por = false → ∀ i, s.render.item = some i →
    (s.port.renderWaiting = i.access? s.standing ∧ s.port.renderGranted = none) ∨
      (s.port.renderWaiting = none ∧ s.port.renderGranted = i.access? s.standing)
  /-- CAPTURE and RESWEEP items only in LIT, WIPE items only in CLEARING -/
  state : ∀ i, s.render.item = some i →
    s.seq.panel = (match i with
      | .wipe _ => .clearing
      | _ => .lit)
  wipe : ∀ a, s.render.item = some (.wipe a) → a = s.wipeAddress ∧ s.render.wipePosition < 16384
  done : s.seq.panel = .clearing → s.seq.wipeDone = true → s.render.wipePosition = 16384
  count : s.render.captureCount ≤ 8
  position : s.render.wipePosition ≤ 16384

/-- The access the copy engine waits for at its step (R126, R129). -/
def CopyEngine.access? (c : CopyEngine) : Option CopyAccess :=
  match c.step with
  | .sourceRead => c.request.map fun q => .read (q.sourceAt c.row c.word)
  | .destWrite w _ => some (.write c.destAddress w)
  | .none | .waitPlace _ => none

/-- The copy engine (R124, R126, R132, R133). -/
structure State.CopyOk (s : State) : Prop where
  /-- no copy is active: no position, no access -/
  ended : s.por = false → s.copy.outcome ≠ .active →
    s.copy.step = .none ∧ s.copy.cancelling = false ∧ s.port.copyWaiting = none ∧ s.port.copyGranted = none
  /-- the position of an active copy lies in its rectangle, and rows remaining counts the rows from it on -/
  active : s.por = false → s.copy.outcome = .active → ∃ q, s.copy.request = some q ∧ s.copy.row < q.rows ∧
    s.copy.word < q.words ∧ s.copy.rowsRemaining = q.rows - s.copy.row ∧ s.copy.step ≠ .none
  /-- its one access is waiting or granted; a cancelled copy has its access granted -/
  access : s.por = false → s.copy.outcome = .active →
    (s.port.copyWaiting = s.copy.access? ∧ s.port.copyGranted = none ∧ s.copy.cancelling = false) ∨
      (s.port.copyWaiting = none ∧ s.port.copyGranted = s.copy.access? ∧ s.port.copyGranted ≠ none)
  /-- R124: rows remaining is 0 to 1024 -/
  rows : ∀ q, s.copy.request = some q → 1 ≤ q.rows ∧ q.rows ≤ 1024 ∧ 1 ≤ q.words ∧ q.words ≤ 256

/-! ### The correspondence law -/

/-- The cell-plane bit of a cell: the working copy's while the render stage holds the cell's word between its
compare and the end of its write-back, DRAM's otherwise (R33, R38). -/
def State.planeBit (s : State) (column line : Nat) : Bool :=
  match s.render.item with
  | some (.capture _ c _ (.writeBack w)) | some (.resweep c _ _ (.writeBack w)) =>
    if c.line = line ∧ c.index = column / 16 then cellBitOf w column
    else cellBitOf (s.readWord (s.standing.cellAddress ⟨line, column / 16⟩)) column
  | _ => cellBitOf (s.readWord (s.standing.cellAddress ⟨line, column / 16⟩)) column

/-- The two cases of R38 for one cell. -/
def State.Corresponds (s : State) (column line : Nat) : Prop :=
  (s.queue.any (fun o => o.isAt column line) = false ∧
      s.glass.shows column line = some (s.planeBit column line)) ∨
    (CellOrder.mk column line (kindOf (s.planeBit column line)) ∈ s.queue ∧
      s.glass.shows column line = some (!s.planeBit column line))

/-- The report unit's block state and its one request (R153–R156). -/
structure State.ReportOk (s : State) : Prop where
  image : s.por = false → (s.report.block = .image ↔
    ∃ n, s.port.reportWaiting = some (.image n) ∨ s.port.current = some (.image n))
  waiting : s.por = false → (s.report.block = .waiting ↔
    (s.port.reportWaiting = some .block ∨ s.port.current = some (.reportBlock none)))
  writing : s.por = false → (s.report.block = .writing ↔ ∃ w, s.port.current = some (.reportBlock (some w)))
  /-- at most one request: none waits while one is granted -/
  once : s.por = false → s.port.reportWaiting ≠ none →
    (∀ w, s.port.current ≠ some (.reportBlock w)) ∧ ∀ n, s.port.current ≠ some (.image n)
  /-- a report that is due has a block asked for, or to come -/
  due : s.report.due = true → s.report.block ≠ .idle

/-- The correspondence law of R38 with what keeps it true: the law in LIT, and on the way there the progress of
the global erases (R94) and of the wipe (R47), which no write but the render stage's can undo (R32, R46). -/
structure State.LawOk (s : State) : Prop where
  sets : s.SetsOk
  queue : s.QueueOk
  render : s.RenderOk
  sequencer : s.SequencerOk
  report : s.ReportOk
  /-- R38 -/
  law : s.por = false → s.seq.panel = .lit → ∀ column line, column < 512 → line < 512 →
    s.seq.cellOut column line = false → s.Corresponds column line
  /-- in CLEARING the glass is dark from the first global erase on -/
  dark : s.por = false → s.seq.panel = .clearing → 0 < s.address.globalErases → s.glass = PanelGlass.erased
  erased : s.seq.panel = .clearing → s.seq.erasesDone = true → s.address.globalErases = 8
  /-- in CLEARING the plane words before the wipe position are 0 -/
  wiped : s.por = false → s.seq.panel = .clearing → ∀ k, k < s.render.wipePosition →
    s.readWord (BitVec.ofNat 18 (s.standing.planeStart + k)) = 0
  /-- an abandoned access of the render stage has completed before the wipe begins -/
  abandoned : s.por = false → ∀ a, s.port.current = some (.render a false) →
    s.seq.panel ≠ .lit ∧ (s.seq.panel = .clearing → s.render.wipePosition = 0 ∧ s.render.item = none)
  /-- a report block is sixteen words -/
  block : ∀ words, s.port.current = some (.reportBlock (some words)) → words.length = 16

end Sys2Proof.Machine
end

