-- ==== Sys2Proof/Certificates/Slice0/Obligations.lean ====
section
/-! DEFINITION. The statements for the provers. Where a statement writes `exec c s = .next u.afterEvent`, the row c
comes about in s with nothing due before it; `afterEvent` is the close of every event (O50). -/

section Slice0Statements

open Sys2Proof Sys2Proof.Machine

/-! ### The step -/

/-- The command at the front of the queue runs on the state with the queue's rest. -/
def Obligations.StepRunsTheFrontCommand : Prop :=
  ∀ (c : Instr) (rest : List Instr) (s : State), s.pending = c :: rest →
    step s = exec c { s with pending := rest }

/-- On an empty queue the part idles (log 4), and no command's effect touches the queue. Every byte of DRAM reads as
before after a row that is not one of the six completed writes, and not POR_ASSERT, whatever steps were due before it. -/
def Obligations.TheQueueAndMemoryAreLeftAlone : Prop :=
  ((∀ s : State, s.pending = [] → step s = .next s) ∧
    ∀ (c : Instr) (s t : State), exec c s = .next t → t.pending = s.pending) ∧
  (∀ (c : Instr) (s t : State),
    c ∉ [.porAssert, .passthroughWriteDone, .writeBackDone, .wipeWriteDone, .reportBlockDone, .imageGrantDone,
      .copyWriteDone] →
    exec c s = .next t → ∀ (a : Addr) (high : Bool), t.readLane a high = s.readLane a high)

/-- An event that the state it finds no longer allows has no effect (R97, R99, R100, R106). -/
def Obligations.AnEventTakenTooLateHasNoEffect : Prop :=
  ∀ s : State, s.ReadyInstant →
    (s.seq.panel ≠ .charging → exec .hvokSeen s = .next s ∧ exec .chargeTimeout s = .next s) ∧
    (s.seq.panel ≠ .clearing → s.seq.panel ≠ .lit →
      exec .hvokLost s = .next s ∧ ∀ axis g, exec (.groupStrike axis g) s = .next s) ∧
    (s.seq.panel ≠ .charging → s.seq.panel ≠ .clearing → s.seq.panel ≠ .lit → exec .hvocSeen s = .next s) ∧
    (s.seq.panel ≠ .resting → exec .restEnd s = .next s) ∧
    (s.seq.panel ≠ .lit → exec .litDurationExpiry s = .next s)

/-! ### Resets -/

/-- POR_ASSERT abandons the cycle in hand and the grant, holds RDY low, negates ATN and HVEN, releases the
sustain and the strobes, and leaves DRAM undefined (R51, R95, R122, R155). While POR is asserted a cycle is not taken,
and the SYSCLR level is followed (R51, R122). The model's choices: that the glass is not known from POR on (log 16),
that DRAM is undefined from the assertion on, as a list emptied and a new epoch (log 5), that a cycle presented later
replaces one still presented (log 14), and that no row but those of the pins changes anything (log 15). -/
def Obligations.PorAssertAbandonsAndReleases : Prop :=
  (∀ s : State, s.por = false →
    exec .porAssert s = .next { s with
      por := true
      dram := []
      dramEpoch := s.dramEpoch + 1
      passage := { s.passage with inHand := none, stallTimer := none, rdy := false }
      address := { s.address with running := false, phase := .notBegun, tick := none, pulse := none }
      glass := PanelGlass.unknown
      seq := { s.seq with hven := false }
      port := { s.port with current := none }
      report := { s.report with atn := false } }) ∧
  (∀ s : State, s.por = true →
    (s.passage.inHand = none → ∀ a, exec (.busRead a) s =
      .next { s with passage := { s.passage with presented := some (.read a), rdy := false } }) ∧
    (s.passage.inHand = none → ∀ a ubs lbs data, exec (.busWrite a ubs lbs data) s =
      .next { s with passage := { s.passage with presented := some (.write a ubs lbs data), rdy := false } }) ∧
    (s.sysclr = false → exec .sysclr s = .next { s with sysclr := true }) ∧
    (s.sysclr = true → exec .sysclrNegate s = .next { s with sysclr := false }) ∧
    (∀ c : Instr, c ≠ .sysclr → c ≠ .sysclrNegate → (∀ straps, c ≠ .porEnd straps) → (∀ a, c ≠ .busRead a) →
      (∀ a u l d, c ≠ .busWrite a u l d) → (∀ i v, c ≠ .faultInputChange i v) → exec c s = .next s))

/-- POR_END gives every block the state it has right after reset (O6), samples the straps, and leaves the levels on
the pins and a cycle still presented as they stand (R51, R55, R95, R119, R122, R140, R149, R155). The model's choices:
that D15–D0 keep their word, and that the copy position of State.reset is row 0, word 0 (log 8). -/
def Obligations.PorEndGivesEveryBlockItsResetState : Prop :=
  ∀ (straps : BitVec 2) (s : State), s.por = true →
    exec (.porEnd straps) s = .next { State.reset with
      pending := s.pending
      dram := s.dram
      dramEpoch := s.dramEpoch
      straps := straps
      sysclr := s.sysclr
      passage := { State.reset.passage with
        presented := s.passage.presented
        rdy := s.passage.presented.isNone
        busData := s.passage.busData }
      seq := { State.reset.seq with hvok := s.seq.hvok, hvoc := s.seq.hvoc, gfx := s.seq.gfx, gfy := s.seq.gfy } }

/-- The values after POR of the standing set (R1, R5, R6, R18, R20, R21, R24, R61, R83, R84, R89, R90, R107,
R108, R152), of the staged words and the copy-request words (R123, R136, R140, R149), and of the blocks' state (R39,
R51, R57, R67, R80, R94, R95, R122, R124, R149, R155). -/
def Obligations.ResetHoldsTheStatedValues : Prop :=
  let r := State.reset
  let p := r.standing
  (p.base = 0 ∧ p.format = .tone4 ∧ p.pitch = 128 ∧ p.width = 512 ∧ p.height = 480 ∧ p.originX = 0 ∧ p.originY = 0 ∧
    p.stepX = 16 ∧ p.stepY = 16 ∧ p.planeStart = 229376) ∧
  ((∀ t : Fin 16, p.toneMap[t] = (16 * t.val + 7) / 15) ∧ p.margin = 0 ∧ p.ditherMode = .ordered ∧
    p.fixedThreshold = 8 ∧ p.matrix.toList = [0, 12, 3, 15, 8, 4, 11, 7, 2, 14, 1, 13, 10, 6, 9, 5]) ∧
  (p.cursorLine = 0 ∧ p.thicknessH = 0 ∧ p.cursorColumn = 0 ∧ p.thicknessV = 0 ∧ p.phaseA = 64 ∧ p.phaseB = 64 ∧
    p.rampSelect = 2 ∧ p.addressDelay = 8 ∧ p.addressWidth = 16 ∧ p.gatherWindow = 32 ∧ p.stallLimit = 4 ∧
    p.debounce = 1 ∧ p.maskX = 0 ∧ p.maskY = 0 ∧ p.enables = 0) ∧
  (r.render.item = none ∧ r.render.captureCount = 0 ∧ r.render.wipePosition = 0 ∧ r.queue = [] ∧
    r.capture.records = [] ∧ r.capture.reservations = 0 ∧ r.capture.overflows = 0 ∧ r.passage.inHand = none ∧
    r.passage.stallTimer = none ∧ r.passage.guardedWrites = 0 ∧ r.stale.count = 0 ∧ r.stale.posLine = 0 ∧
    r.stale.posWord = 0 ∧ r.passage.rdy = true ∧
    ∀ l : Fin 512, r.stale.lines[l].stale = false ∧ r.stale.lines[l].hold = 0) ∧
  (r.address.running = false ∧ r.address.currentA = 64 ∧ r.address.currentB = 64 ∧ r.address.cycleA = 64 ∧
    r.address.cycleB = 64 ∧ r.address.tick = none ∧ r.address.pulse = none ∧ r.address.globalErases = 0 ∧
    r.address.cellsAddressed = 0 ∧ r.address.droppedOrders = 0) ∧
  (r.seq.panel = .dark ∧ r.seq.hven = false ∧ r.seq.recoveryCount = 0 ∧ r.seq.faults = 0 ∧ r.seq.strikeX = 0 ∧
    r.seq.strikeY = 0 ∧ r.seq.outX = 0 ∧ r.seq.outY = 0 ∧ r.seq.erasesDone = false ∧ r.seq.wipeDone = false ∧
    r.seq.chargeTimer = none ∧ r.seq.restTimer = none ∧ r.seq.litTimer = none ∧ r.seq.debounceHvok = none ∧
    r.seq.debounceHvoc = none ∧ ∀ axis g, r.seq.groupTimer axis g = none) ∧
  (r.port.current = none ∧ r.port.pendingRefresh = false ∧ r.port.refreshRow = 0 ∧ r.port.refreshTimer = some 14 ∧
    r.port.refreshWaiting = false ∧ r.port.passWaiting = false ∧ r.port.reportWaiting = some (.image 1) ∧
    r.port.renderWaiting = none ∧ r.port.copyWaiting = none) ∧
  (r.copy.request = none ∧ r.copy.outcome = .none ∧ r.copy.rowsRemaining = 0 ∧ r.copy.step = .none ∧
    r.copy.cancelling = false) ∧
  (r.control.params.toList = [0, 0, 0, 128, 512, 480, 0, 0, 16, 16, 0, 0, 8, 0, 0, 0, 0, 64, 64, 2, 8, 16, 32, 4, 1, 0,
      0, 14, 0] ∧
    (∀ t : Fin 16, (r.control.staged (64 + t.val)) = (16 * t.val + 7) / 15) ∧
    (r.control.tables.toList.drop 16 = [0, 12, 3, 15, 8, 4, 11, 7, 2, 14, 1, 13, 10, 6, 9, 5]) ∧
    r.control.copyWords.toList = [0, 0, 0, 0, 0, 0, 0, 0, 0, 0] ∧ r.control.argument = 0 ∧ r.control.checked = none ∧
    r.control.lastCode = 0 ∧ r.control.lastOutcome = .none ∧ r.control.clampSet = 0 ∧ r.control.handOvers = []) ∧
  (r.report.causes = 0 ∧ r.report.quietArmed = false ∧ r.report.due = true ∧ r.report.block = .image ∧
    r.report.writeCount = 0 ∧ r.report.atn = false)

/-- SYSCLR (R66, R111, R121, R134, R149, R156). -/
def Obligations.SysclrEntersDarkAndAbortsTheCopy : Prop :=
  ∀ s : State, s.ReadyInstant → s.sysclr = false → ∃ t, exec .sysclr s = .next t ∧ s.EntersDark t ∧
    t.sysclr = true ∧ t.control = { s.control with checked := none } ∧ t.report.causes = 0 ∧
    t.report.quietArmed = false ∧ t.report.atn = false ∧ t.copy.request = s.copy.request ∧
    t.copy.rowsRemaining = s.copy.rowsRemaining ∧
    (s.copy.outcome = .active → t.copy.outcome = .aborted ∧ t.copy.step = .none ∧ t.copy.cancelling = false ∧
      t.port.copyWaiting = none ∧
      ∀ a owned, s.port.current = some (.copy a owned) → t.port.current = some (.copy a false)) ∧
    (s.copy.outcome ≠ .active → t.copy.outcome = s.copy.outcome)

/-- While SYSCLR is asserted a cycle is not taken (R66; that it replaces one presented before is log 14). Once SYSCLR is
negated the cycle still presented is taken as R51 gives: it is due before any row (the rows named apart are POR, the
rows of a hand-over, the port's decision and the steps that are themselves due), a SYSCLR asserted again included. -/
def Obligations.CyclesWaitWhileSysclrIsAsserted : Prop :=
  (∀ s : State, s.Ready → s.sysclr = true → s.passage.inHand = none →
    (∀ a, exec (.busRead a) s =
      .next (State.afterEvent { s with passage := { s.passage with presented := some (.read a), rdy := false } })) ∧
    (∀ a ubs lbs data, exec (.busWrite a ubs lbs data) s =
      .next (State.afterEvent { s with
        passage := { s.passage with presented := some (.write a ubs lbs data), rdy := false } })) ∧
    exec .sysclrNegate s = .next (State.afterEvent { s with sysclr := false })) ∧
  ∀ (s : State) (cycle : PresentedCycle), s.por = false → s.sysclr = false → s.passage.inHand = none →
    s.passage.presented = some cycle → dueUrgent s = none →
    (∀ a, cycle = .read a → dueInstant s = some (State.afterEvent { s with
      passage := { s.passage with inHand := some (.read a), presented := none, rdy := false }
      port := { s.port with passWaiting := true } })) ∧
    (rowSeenAtOnce s = none → s.control.handOvers = [] → s.port.current ≠ none →
      let presented : Instr := match cycle with
        | .read a => .busRead a
        | .write a ubs lbs data => .busWrite a ubs lbs data
      ∃ t, exec presented { s with passage := { s.passage with presented := none } } = .next t ∧
        t.passage.inHand ≠ none ∧ t.passage.presented = none ∧ dueAny s = some t ∧ dueInstant s = some t ∧
        ∀ c : Instr, (∀ straps, c ≠ .porEnd straps) →
          c ∉ [.porAssert, .stagedWrite, .commit, .restartPanel, .stopPanel, .clearFaults, .release, .startCopy,
            .cancelCopy, .resweepAll, .reportNow, .unknownCommand, .grantDecision, .heldWritePlaced, .commitApply,
            .captureItem, .resweepItem, .wipeItem, .freeEntryWaitEnd, .reportBlockGrant, .copyPlaceGiven] →
          exec c s = exec c t)

/-! ### The bus passage -/

/-- A read (R51): taken with RDY low and its access asked for at once; completed with the word as DRAM holds it. -/
def Obligations.AReadPassesThrough : Prop :=
  (∀ (a : Addr) (s : State), s.Ready → s.sysclr = false → s.passage.inHand = none →
    exec (.busRead a) s = .next (State.afterEvent { s with
      passage := { s.passage with inHand := some (.read a), presented := none, rdy := false }
      port := { s.port with passWaiting := true } })) ∧
  ∀ (a : Addr) (s : State), s.Ready → s.port.current = some .passthrough → s.passage.inHand = some (.read a) →
    exec .passthroughReadDone s = .next (State.afterEvent { s with
      passage := { s.passage with inHand := none, stallTimer := none, rdy := true, busData := s.readWord a }
      port := { s.port with current := none, deciding := true } })

/-- The guard decision of a write (R58, and R61 for a stall limit of 0). -/
def Obligations.AWriteReceivesItsGuardDecision : Prop :=
  ∀ (a : Addr) (ubs lbs : Bool) (data : Word) (s : State), s.Ready → s.sysclr = false → s.passage.inHand = none →
    let needs := s.seq.panel = .lit ∧ (ubs = true ∨ lbs = true) ∧ s.standing.base ≤ a.toNat ∧
      a.toNat < s.standing.base + s.standing.height * s.standing.pitch
    let free := s.capture.records.length + s.capture.reservations < 16
    let held (d : GuardDecision) (stall : Timer) : Passage :=
      { s.passage with
        inHand := some (.write a (lanesOf ubs lbs) data d), presented := none, stallTimer := stall, rdy := false }
    let asked : MemoryPort := { s.port with passWaiting := true }
    (¬needs → exec (.busWrite a ubs lbs data) s =
      .next (State.afterEvent { s with passage := held .unplaced none, port := asked })) ∧
    (needs → free → exec (.busWrite a ubs lbs data) s =
      .next (State.afterEvent { s with
        capture := { s.capture with reservations := s.capture.reservations + 1 }
        passage := held .placed none
        port := asked })) ∧
    (needs → ¬free → s.standing.stallLimit ≠ 0 → exec (.busWrite a ubs lbs data) s =
      .next (State.afterEvent { s with passage := held .held (some s.standing.stallLimit) })) ∧
    (needs → ¬free → s.standing.stallLimit = 0 → exec (.busWrite a ubs lbs data) s =
      .next (State.afterEvent { s with passage := held .expired none, port := asked }))

/-- A HELD write is settled by the place given to it or by its stall timer, whichever comes first (R60). -/
def Obligations.AHeldWriteIsSettledOnce : Prop :=
  ∀ (a : Addr) (lanes : Option Lanes) (data : Word) (s : State), s.passage.inHand = some (.write a lanes data .held) →
    (s.por = false → s.capture.records.length + s.capture.reservations < 16 →
      exec .heldWritePlaced s = .next (State.afterEvent { s with
        capture := { s.capture with reservations := s.capture.reservations + 1 }
        passage := { s.passage with
          inHand := some (.write a lanes data .placed), presented := none, stallTimer := none, rdy := false }
        port := { s.port with passWaiting := true } })) ∧
    (s.Ready → s.passage.stallTimer ≠ none → exec .stallExpiry s = .next (State.afterEvent { s with
      passage := { s.passage with
        inHand := some (.write a lanes data .expired), presented := none, stallTimer := none, rdy := false }
      port := { s.port with passWaiting := true } })) ∧
    (∀ d, d ≠ .held → ∀ t : State, t.Ready → t.passage.inHand = some (.write a lanes data d) →
      exec .stallExpiry t = .next t)

/-- A completed bus write (R52–R54): RDY returns high; one with no lane writes nothing; one into the cell plane
is withheld and counted; any other lands (O13). That a report block made due by an OVERFLOW is asked for before the port's
decision at this completion is the model's choice (log 33). -/
def Obligations.ABusWriteCompletes : Prop :=
  ∀ (a : Addr) (lanes : Option Lanes) (data : Word) (d : GuardDecision) (s : State),
    s.Ready → s.port.current = some .passthrough → s.passage.inHand = some (.write a lanes data d) →
    let done : State := { s with
      passage := { s.passage with inHand := none, stallTimer := none, rdy := true }
      port := { s.port with current := none, deciding := true } }
    (lanes = none → exec .passthroughWriteDone s =
      .next (State.afterEvent { done with capture := s.capture.release d })) ∧
    (∀ l, lanes = some l → s.standing.inPlane a.toNat = true → exec .passthroughWriteDone s =
      .next (State.afterEvent { done with
        passage := { done.passage with
          guardedWrites := if s.passage.guardedWrites = 65535 then 65535 else s.passage.guardedWrites + 1 }
        capture := s.capture.release d })) ∧
    (∀ l, lanes = some l → s.standing.inPlane a.toNat = false → exec .passthroughWriteDone s =
      .next (State.afterEvent (done.landed a l data d)))

/-- What a write that lands becomes, by its place, the panel state and its guard decision (R52, R55–R57, R62,
R63, R72): its lanes are in memory; a control-page write is handed over; a picture write in LIT joins the capture
list or overflows; any place it held and does not fill is released. The lines an overflow marks (R12). -/
def Obligations.ALandedWriteHasTheOutcomeOfTheTable : Prop :=
  (∀ (a : Addr) (l : Lanes) (data : Word) (d : GuardDecision) (s : State), s.standing.inPlane a.toNat = false →
    let written : State := { s with dram := Memory.writeLanes s.dram a l data }
    let record : CaptureRecord := ⟨a, l, carriedData l data⟩
    let overflowed : State := ({ written with capture := { s.capture with
      overflows := if s.capture.overflows = 65535 then 65535 else s.capture.overflows + 1 } } : State).enterCause .overflow
    (inControlPage s.straps a.toNat = true → s.landed a l data d = { written with
      capture := s.capture.release d
      control := { s.control with
        handOvers := s.control.handOvers ++ [⟨a.toNat - controlPageStart s.straps, l, data⟩] } }) ∧
    (inControlPage s.straps a.toNat = false → (s.standing.inPicture a.toNat = false ∨ s.seq.panel ≠ .lit) →
      s.landed a l data d = { written with capture := s.capture.release d }) ∧
    (inControlPage s.straps a.toNat = false → s.standing.inPicture a.toNat = true → s.seq.panel = .lit →
      (d = .placed → s.landed a l data d = { written with
        capture := { s.capture with
          records := s.capture.records ++ [record], reservations := s.capture.reservations - 1 } }) ∧
      (d = .unplaced → s.capture.records.length + s.capture.reservations < 16 → s.landed a l data d = { written with
        capture := { s.capture with records := s.capture.records ++ [record] } }) ∧
      ((d = .unplaced ∧ ¬(s.capture.records.length + s.capture.reservations < 16)) ∨ d = .expired →
        (s.standing.overflowLines a l = none → s.landed a l data d = overflowed) ∧
        ∀ ls, s.standing.overflowLines a l = some ls → s.landed a l data d = { overflowed with
          stale := s.stale.mark (fun line => decide (ls.1 ≤ line) && decide (line ≤ ls.2))
            s.capture.records.length }))) ∧
  ∀ (p : ParamSet) (straps : BitVec 2) (a : Addr) (l : Lanes) (cy : Nat), p.Valid straps → cy < 512 →
    let n := match p.format with
      | .tone4 => 4
      | .dot1 => 16
    let carried (k : Nat) : Prop := match l with
      | .both => True
      | .high => k < n / 2
      | .low => n / 2 ≤ k
    (∀ ls, p.overflowLines a l = some ls → ls.1 ≤ ls.2 ∧ ls.2 ≤ 511) ∧
    ((∃ ls, p.overflowLines a l = some ls ∧ ls.1 ≤ cy ∧ cy ≤ ls.2) ↔
      p.base ≤ a.toNat ∧ a.toNat < p.base + p.height * p.pitch ∧
      p.originY + cy * p.stepY / 16 = (a.toNat - p.base) / p.pitch ∧
      ∃ k, k < n ∧ carried k ∧ n * ((a.toNat - p.base) % p.pitch) + k < p.width)

/-- A write carries its lanes into DRAM and leaves every other lane as it stood (R52, R114); so does a latch of a
staged word (R139), and the data of a capture record is 0 in a lane not carried (R56). A block of words stands in
memory after it is written, both lanes of each, and no other word is changed (R118, R119). -/
def Obligations.ABlockStandsInMemory : Prop :=
  (∀ (s : State) (a b : Addr) (l : Lanes) (w old : Word) (high : Bool),
    let carried : Prop := match l with
      | .both => True
      | .high => high = true
      | .low => high = false
    let byte (w : Word) : Byte := if high = true then w.extractLsb' 8 8 else w.extractLsb' 0 8
    let written : State := { s with dram := Memory.writeLanes s.dram a l w }
    (carried → written.readLane a high = byte w ∧ byte (mergeLanes l old w) = byte w ∧
    byte (carriedData l w) = byte w) ∧
    (¬carried → written.readLane a high = s.readLane a high ∧ byte (mergeLanes l old w) = byte old ∧
      byte (carriedData l w) = 0) ∧
    (b ≠ a → written.readLane b high = s.readLane b high) ∧
    byte (s.readWord b) = s.readLane b high) ∧
  ∀ (s : State) (start : Nat) (words : List Word), start + words.length ≤ 262144 →
    (∀ i, i < words.length → (s.writeBlock start words).readWord (BitVec.ofNat 18 (start + i)) = words.getD i 0) ∧
    ∀ (a : Addr) (high : Bool), (a.toNat < start ∨ start + words.length ≤ a.toNat) →
      (s.writeBlock start words).readLane a high = s.readLane a high

/-! ### The control block -/

/-- A hand-over that carries no command (R139): each carried lane replaces the same byte of the word at its offset;
nothing else of the part moves. -/
def Obligations.AStagedWriteReplacesTheCarriedLanes : Prop :=
  ∀ (h : HandOver) (rest : List HandOver) (s : State), s.ReadyUrgent → s.control.handOvers = h :: rest →
    ¬(h.offset = 0 ∧ h.lanes.hasLow = true ∧ lowByte h.data ≠ 0) →
    exec .stagedWrite s = .next (State.afterEvent { s with control := { s.control with
      handOvers := rest
      argument := if h.offset = 0 ∧ h.lanes.hasHigh = true then highByte h.data else s.control.argument
      params :=
        if 1 ≤ h.offset ∧ h.offset ≤ 29 then
          s.control.params.setIfInBounds (h.offset - 1)
            (mergeLanes h.lanes (entry s.control.params (h.offset - 1) 0) h.data)
        else s.control.params
      tables :=
        if 64 ≤ h.offset ∧ h.offset ≤ 95 then
          s.control.tables.setIfInBounds (h.offset - 64)
            (mergeLanes h.lanes (entry s.control.tables (h.offset - 64) 0) h.data)
        else s.control.tables
      copyWords :=
        if 96 ≤ h.offset ∧ h.offset ≤ 105 then
          s.control.copyWords.setIfInBounds (h.offset - 96)
            (mergeLanes h.lanes (entry s.control.copyWords (h.offset - 96) 0) h.data)
        else s.control.copyWords } })

/-- What every command take does (R145, R150, R152, R153), whatever the command: `takeHandOver` writes the argument
latch, `recordCommand` records code and outcome, makes a report due and, for an outcome other than DONE, enters
REFUSED. A code of 0Ah or more has no other effect. -/
def Obligations.EveryCommandTakeIsRecorded : Prop :=
  (∀ (h : HandOver) (rest : List HandOver) (s : State), h.offset = 0 →
    s.takeHandOver h rest = { s with control := { s.control with
      handOvers := rest
      argument := if h.lanes.hasHigh = true then highByte h.data else s.control.argument } }) ∧
  (∀ (s : State) (code : Byte) (o : CommandOutcome), ∃ t, s.recordCommand code o = t ∧
    t.control = { s.control with lastCode := code, lastOutcome := o } ∧ s.ReportMade t ∧
    (o = .done → t.report.causes = s.report.causes ∧ t.report.atn = s.report.atn) ∧
    (o ≠ .done → t.report.causes = s.report.causes ||| 16#6 ∧
      t.report.atn = decide ((s.report.causes ||| 16#6) &&& s.standing.enables ≠ 0)) ∧
    t = { s with
      control := t.control
      report := { t.report with quietArmed := s.report.quietArmed, writeCount := s.report.writeCount }
      port := { s.port with reportWaiting := t.port.reportWaiting } }) ∧
  ∀ (h : HandOver) (rest : List HandOver) (s : State), s.ReadyUrgent → s.control.handOvers = h :: rest →
    h.isCommand = true → 10 ≤ (lowByte h.data).toNat →
    exec .unknownCommand s = .next ((s.takeHandOver h rest).recordCommand (lowByte h.data) .unknown).afterEvent

/-- COMMIT (R141): BUSY while a commit waits; DONE with the candidate as the checked set when the checks pass;
RANGE otherwise. The clamp set is replaced at every COMMIT that is checked. -/
def Obligations.CommitChecksACandidate : Prop :=
  ∀ (h : HandOver) (rest : List HandOver) (s : State), s.ReadyUrgent → s.control.handOvers = h :: rest →
    h.isCommand = true → lowByte h.data = 1 →
    let t := s.takeHandOver h rest
    (∀ p, s.control.checked = some p → exec .commit s = .next (t.recordCommand 1 .busy).afterEvent) ∧
    (s.control.checked = none → s.control.candidatePasses s.straps = true → exec .commit s =
      .next (State.recordCommand { t with control := { t.control with
        clampSet := s.control.candidateClamps, checked := some s.control.candidate } } 1 .done).afterEvent) ∧
    (s.control.checked = none → s.control.candidatePasses s.straps = false → exec .commit s =
      .next (State.recordCommand { t with control := { t.control with clampSet := s.control.candidateClamps } } 1
        .range).afterEvent)

/-- Steps 2 to 4 of a COMMIT (R15, R16, R17): the width is fitted to the pitch and the height to memory, each with
PICTURE in the clamp set; the commit is refused with RANGE when the height is 0 or two of the three spans share a word,
and its clamps reach the standing set only through the checked set. -/
def Obligations.CommitStepsFitAndRefuse : Prop :=
  (∀ (c : ControlBlock) (straps : BitVec 2),
    let q := c.clamped
    let p := c.candidate
    let n := match q.format with
      | .tone4 => 4
      | .dot1 => 16
    p = { q with width := p.width, height := p.height } ∧
    (q.width > q.pitch * n → p.width = q.pitch * n ∧ c.candidateClamps = c.clampBits ||| 1#8) ∧
    (q.width ≤ q.pitch * n → p.width = q.width) ∧
    (q.base + q.height * q.pitch > 262144 → p.height = (262144 - q.base) / q.pitch ∧
      c.candidateClamps = c.clampBits ||| 1#8) ∧
    (q.base + q.height * q.pitch ≤ 262144 → p.height = q.height) ∧
    (q.width ≤ q.pitch * n → q.base + q.height * q.pitch ≤ 262144 → c.candidateClamps = c.clampBits) ∧
    (c.candidatePasses straps = true ↔ p.height ≠ 0 ∧
      ∀ x : Nat, ¬(p.inPicture x = true ∧ p.inPlane x = true) ∧
        ¬(p.inPicture x = true ∧ inControlPage straps x = true) ∧
        ¬(p.inPlane x = true ∧ inControlPage straps x = true))) ∧
  ∀ (h : HandOver) (rest : List HandOver) (s : State), s.ReadyUrgent → s.control.handOvers = h :: rest →
    h.isCommand = true → lowByte h.data = 1 → s.control.checked = none →
    let t := s.takeHandOver h rest
    let judged : ControlBlock := { t.control with clampSet := s.control.candidateClamps }
    exec .commit s = .next
      (if s.control.candidatePasses s.straps = true then
        State.recordCommand { t with control := { judged with checked := some s.control.candidate } } 1 .done
      else State.recordCommand { t with control := judged } 1 .range).afterEvent

/-- The first step of a COMMIT (R14, R28, R29, R30, R61, R84, R89, R90, R107, R142): where each staged value goes,
for the fields with two limits, with one limit, with a choice of two, and for the masks and enables; and the eight
clamp groups, each entered when a field of it was out of its range. -/
def Obligations.CommitBringsEveryFieldIntoRange : Prop :=
  ∀ c : ControlBlock,
    let p := c.clamped
    let within (lo hi v : Nat) : Nat := if v < lo then lo else if hi < v then hi else v
    (p.base = within 0 262143 (c.staged 1 + 65536 * c.staged 2) ∧ p.pitch = within 1 1024 (c.staged 4) ∧
      p.width = within 1 2048 (c.staged 5) ∧ p.height = within 1 2048 (c.staged 6) ∧
      p.originX = within 0 2047 (c.staged 7) ∧ p.originY = within 0 2047 (c.staged 8) ∧
      p.stepX = within 4 64 (c.staged 9) ∧ p.stepY = within 4 64 (c.staged 10)) ∧
    (p.margin = within 0 16 (c.staged 11) ∧ p.fixedThreshold = within 0 15 (c.staged 13) ∧
      (∀ t : Fin 16, p.toneMap[t] = within 0 16 (c.staged (64 + t.val))) ∧
      ∀ i : Fin 16, p.matrix[i] = within 0 15 (c.staged (80 + i.val))) ∧
    (p.cursorLine = within 0 511 (c.staged 14) ∧ p.thicknessH = within 0 15 (c.staged 15) ∧
      p.cursorColumn = within 0 511 (c.staged 16) ∧ p.thicknessV = within 0 15 (c.staged 17)) ∧
    (p.phaseA = within 32 128 (c.staged 18) ∧ p.phaseB = within 32 128 (c.staged 19) ∧
      p.rampSelect = within 0 4 (c.staged 20) ∧ p.addressDelay = within 4 24 (c.staged 21) ∧
      p.addressWidth = within 8 32 (c.staged 22) ∧ p.gatherWindow = within 1 32 (c.staged 23) ∧
      p.stallLimit = within 0 15 (c.staged 24) ∧ p.debounce = within 0 3 (c.staged 25) ∧
      p.planeBlock = within 0 15 (c.staged 28)) ∧
    ((p.format = .tone4 ↔ c.staged 3 = 0) ∧ (p.ditherMode = .ordered ↔ c.staged 12 = 0) ∧
      p.maskX.toNat = c.staged 26 % 256 ∧ p.maskY.toNat = c.staged 27 % 256 ∧ p.enables.toNat = c.staged 29 % 64) ∧
    let out (o lo hi : Nat) : Prop := c.staged o < lo ∨ hi < c.staged o
    (c.clampBits.getLsbD 0 = true ↔ 262143 < c.staged 1 + 65536 * c.staged 2 ∨ 1 < c.staged 3 ∨ out 4 1 1024 ∨
      out 5 1 2048 ∨ out 6 1 2048) ∧
    (c.clampBits.getLsbD 1 = true ↔ 2047 < c.staged 7 ∨ 2047 < c.staged 8 ∨ out 9 4 64 ∨ out 10 4 64) ∧
    (c.clampBits.getLsbD 2 = true ↔ 16 < c.staged 11 ∨ ∃ t, t < 16 ∧ 16 < c.staged (64 + t)) ∧
    (c.clampBits.getLsbD 3 = true ↔ 1 < c.staged 12 ∨ 15 < c.staged 13 ∨ ∃ i, i < 16 ∧ 15 < c.staged (80 + i)) ∧
    (c.clampBits.getLsbD 4 = true ↔ 511 < c.staged 14 ∨ 15 < c.staged 15 ∨ 511 < c.staged 16 ∨ 15 < c.staged 17) ∧
    (c.clampBits.getLsbD 5 = true ↔ out 18 32 128 ∨ out 19 32 128 ∨ 4 < c.staged 20) ∧
    (c.clampBits.getLsbD 6 = true ↔ out 21 4 24 ∨ out 22 8 32) ∧
    (c.clampBits.getLsbD 7 = true ↔ c.staged 23 = 0 ∨ 32 < c.staged 23 ∨ 15 < c.staged 24 ∨ 3 < c.staged 25 ∨
      15 < c.staged 28)

/-- RESTART PANEL and STOP PANEL by sequencer state (R146, R97, R101, R105). That a commit waiting stands through the whole
row and is applied after it is the model's choice: R148 lets it come before or after (log 34). -/
def Obligations.PanelCommandsActBySequencerState : Prop :=
  ∀ (h : HandOver) (rest : List HandOver) (s : State), s.ReadyUrgent → s.control.handOvers = h :: rest →
    h.isCommand = true →
    let t := s.takeHandOver h rest
    (lowByte h.data = 2 →
      (s.seq.panel = .dark → exec .restartPanel s = .next (State.recordCommand (State.reportDue { t with
        seq := { s.seq with
          panel := .charging
          hven := true
          chargeTimer := some 60000
          restTimer := none
          debounceHvok := if s.seq.hvok = true then some (debounceMicros s.standing.debounce) else none
          debounceHvoc := if s.seq.hvoc = true then some (debounceMicros s.standing.debounce) else none } }) 2
        .done).afterEvent) ∧
      (s.seq.panel = .clearing ∨ s.seq.panel = .lit →
        ∃ u, exec .restartPanel s = .next (u.recordCommand 2 .done).afterEvent ∧ t.SoftRestarts u) ∧
      (s.seq.panel = .charging ∨ s.seq.panel = .resting →
        exec .restartPanel s = .next (t.recordCommand 2 .busy).afterEvent) ∧
      (s.seq.panel = .barred → exec .restartPanel s = .next (t.recordCommand 2 .wrongState).afterEvent)) ∧
    (lowByte h.data = 3 →
      (s.seq.panel = .dark → exec .stopPanel s = .next (t.recordCommand 3 .wrongState).afterEvent) ∧
      (s.seq.panel ≠ .dark → ∃ u, exec .stopPanel s = .next (u.recordCommand 3 .done).afterEvent ∧ t.EntersDark u ∧
        t.CopyLetGo u ∧ u.control = t.control ∧ u.sysclr = t.sysclr ∧ u.report.causes = t.report.causes ∧
        u.report.atn = t.report.atn ∧ u.report.quietArmed = t.report.quietArmed ∧
        ∀ a owned, t.port.current = some (.copy a owned) → u.port.current = some (.copy a owned)))

/-- CLEAR FAULTS (R110): in DARK every group is restored; then each kind whose condition is absent is removed. It is
always DONE. -/
def Obligations.ClearFaultsKeepsOnlyPresentConditions : Prop :=
  ∀ (h : HandOver) (rest : List HandOver) (s : State), s.ReadyUrgent → s.control.handOvers = h :: rest →
    h.isCommand = true → lowByte h.data = 4 →
    let t := s.takeHandOver h rest
    ∃ f : BitVec 6, ∃ sx sy ox oy : Byte,
      exec .clearFaults s = .next (State.recordCommand { t with seq := { s.seq with
        faults := f, strikeX := sx, strikeY := sy, outX := ox, outY := oy } } 4 .done).afterEvent ∧
      (s.seq.panel = .dark → sx = 0 ∧ sy = 0 ∧ ox = 0 ∧ oy = 0) ∧
      (s.seq.panel ≠ .dark → sx = s.seq.strikeX ∧ sy = s.seq.strikeY ∧ ox = s.seq.outX ∧ oy = s.seq.outY) ∧
      (f.getLsbD 0 = true ↔ s.seq.faults.getLsbD 0 = true ∧ (s.seq.panel = .clearing ∨ s.seq.panel = .lit) ∧
        s.seq.hvok = false) ∧
      (f.getLsbD 1 = true ↔ s.seq.faults.getLsbD 1 = true ∧ s.seq.hvoc = true) ∧
      f.getLsbD 2 = false ∧
      (f.getLsbD 3 = true ↔ s.seq.faults.getLsbD 3 = true ∧
        ((∃ g, g < 8 ∧ s.standing.maskX.getLsbD g = false ∧ ox.getLsbD g = false ∧ s.seq.gfx.getLsbD g = true) ∨
          ∃ g, g < 8 ∧ s.standing.maskY.getLsbD g = false ∧ oy.getLsbD g = false ∧ s.seq.gfy.getLsbD g = true)) ∧
      (f.getLsbD 4 = true ↔ s.seq.faults.getLsbD 4 = true ∧ s.seq.recoveryCount = 5) ∧
      (f.getLsbD 5 = true ↔ s.seq.faults.getLsbD 5 = true ∧ (ox = 255 ∨ oy = 255))

/-- RELEASE and REPORT NOW (R147); RESWEEP ALL (R74, R146). -/
def Obligations.ReleaseReportNowAndResweepAll : Prop :=
  (∀ (h : HandOver) (rest : List HandOver) (s : State), s.ReadyUrgent → s.control.handOvers = h :: rest →
    h.isCommand = true →
    let t := s.takeHandOver h rest
    (lowByte h.data = 5 → ∃ left : BitVec 6,
      exec .release s = .next (State.recordCommand { t with report := { t.report with
        causes := left, atn := decide (left &&& s.standing.enables ≠ 0) } } 5 .done).afterEvent ∧
      ∀ k, k < 6 → left.getLsbD k = (s.report.causes.getLsbD k && !t.control.argument.getLsbD k)) ∧
    (lowByte h.data = 9 → exec .reportNow s = .next (t.recordCommand 9 .done).afterEvent)) ∧
  (∀ (h : HandOver) (rest : List HandOver) (s : State), s.ReadyUrgent → s.control.handOvers = h :: rest →
    h.isCommand = true → lowByte h.data = 8 →
    let t := s.takeHandOver h rest
    (s.seq.panel = .lit → exec .resweepAll s = .next (State.recordCommand { t with
      stale := { s.stale with lines := Vector.replicate 512 ⟨true, s.capture.records.length⟩ } } 8 .done).afterEvent) ∧
    (s.seq.panel ≠ .lit → exec .resweepAll s = .next (t.recordCommand 8 .wrongState).afterEvent))

/-! ### Applying a commit -/

/-- COMMIT_APPLY (R41, R73, R84, R108, R143, R144, R152). That a changed ramp select leaves the tick timer stopped while
the sustain is stopped is the model's choice (log 35). -/
def Obligations.AnAppliedCommitReachesEveryOwner : Prop :=
  ∀ (new : ParamSet) (s : State), s.por = false → s.render.item = none → s.control.checked = some new →
    let old := s.standing
    let descriptor := old.base = new.base ∧ old.format = new.format ∧ old.pitch = new.pitch ∧ old.width = new.width ∧
      old.height = new.height ∧ old.originX = new.originX ∧ old.originY = new.originY ∧ old.stepX = new.stepX ∧
      old.stepY = new.stepY
    let dots := old.margin = new.margin ∧ old.ditherMode = new.ditherMode ∧ old.fixedThreshold = new.fixedThreshold ∧
      old.matrix = new.matrix ∧ old.toneMap = new.toneMap ∧ old.cursorColumn = new.cursorColumn ∧
      old.thicknessV = new.thicknessV
    let bar (p : ParamSet) (l : Nat) := p.cursorLine ≤ l ∧ l < p.cursorLine + p.thicknessH
    let barMoved := ¬(old.cursorLine = new.cursorLine ∧ old.thicknessH = new.thicknessH)
    ∃ t : State,
      (t.standing = new ∧ t.control = { s.control with checked := none } ∧
        t.report = { s.report with atn := decide (s.report.causes &&& new.enables ≠ 0) } ∧
        t = { s with
          standing := new, control := t.control, stale := t.stale, address := t.address, report := t.report
          seq := { s.seq with debounceX := t.seq.debounceX, debounceY := t.seq.debounceY } }) ∧
      (t.stale.posLine = s.stale.posLine ∧ t.stale.posWord = s.stale.posWord ∧
        ∀ l : Fin 512,
          (¬(descriptor ∧ dots) ∨ (barMoved ∧ (bar old l.val ∨ bar new l.val)) →
            t.stale.lines[l] = ⟨true, s.capture.records.length⟩) ∧
          ((descriptor ∧ dots) → ¬(barMoved ∧ (bar old l.val ∨ bar new l.val)) → t.stale.lines[l] = s.stale.lines[l])) ∧
      (t.address = { s.address with
        currentA := if s.address.running = false ∨ new.rampSelect = 0 then new.phaseA else s.address.currentA
        currentB := if s.address.running = false ∨ new.rampSelect = 0 then new.phaseB else s.address.currentB
        tick := if s.address.running = true ∧ old.rampSelect ≠ new.rampSelect then tickInterval new.rampSelect
          else s.address.tick }) ∧
      (∀ axis g, g < 8 → ((new.mask axis).getLsbD g = true → t.seq.groupTimer axis g = none) ∧
        ((new.mask axis).getLsbD g = false → (old.mask axis).getLsbD g = true → t.seq.groupTimer axis g =
          if s.seq.groupLive new axis g = true ∧ (s.seq.inputs axis).getLsbD g = true then
            some (debounceMicros new.debounce) else none) ∧
        ((new.mask axis).getLsbD g = false → (old.mask axis).getLsbD g = false →
          t.seq.groupTimer axis g = s.seq.groupTimer axis g)) ∧
      ((old.planeBlock = new.planeBlock ∨ (s.seq.panel ≠ .clearing ∧ s.seq.panel ≠ .lit)) →
        exec .commitApply s = .next t.afterEvent) ∧
      (old.planeBlock ≠ new.planeBlock → s.seq.panel = .clearing ∨ s.seq.panel = .lit →
        ∃ u, exec .commitApply s = .next u.afterEvent ∧ t.SoftRestarts u)

/-! ### The render stage -/

/-- CAPTURE_ITEM and RESWEEP_ITEM in LIT (R40): which of the two is taken, and what the take does to the list, the
holds (R69), the stale set (R71) and the count. The cell words of a record are those that hold a cell of its rectangle,
line by line and by ascending word index (R44). -/
def Obligations.TheRenderStageChoosesItsItem : Prop :=
  (∀ (p : ParamSet) (r : CaptureRecord),
    (p.rectangle r = none → p.recordWords r = []) ∧
    ∀ q, p.rectangle r = some q →
      (∀ c, c ∈ p.recordWords r ↔
        q.line0 ≤ c.line ∧ c.line ≤ q.line1 ∧ q.column0 / 16 ≤ c.index ∧ c.index ≤ q.column1 / 16) ∧
      (p.recordWords r).Pairwise fun c d => c.line < d.line ∨ (c.line = d.line ∧ c.index < d.index)) ∧
  ∀ s : State, s.por = false → s.seq.panel = .lit → s.render.item = none → s.control.checked = none →
    s.port.rendering = false →
    let waiting := s.stale.offer ≠ none
    (∀ r rest, s.capture.records = r :: rest →
      (waiting → s.render.captureCount = 8 → exec .captureItem s = .next s) ∧
      (waiting → s.render.captureCount < 8 → exec .resweepItem s = .next s) ∧
      (¬waiting ∨ s.render.captureCount < 8 → exec .captureItem s = .next (State.afterEvent
        (State.nextCaptureWord { s with
          capture := { s.capture with records := rest }
          stale := s.stale.lowerHolds
          render := { s.render with captureCount := min 8 (s.render.captureCount + 1) } } r
          (s.standing.recordWords r))))) ∧
    (∀ c, s.stale.offer = some c → (s.capture.records = [] ∨ s.render.captureCount = 8) →
      exec .resweepItem s = .next (State.afterEvent
        (State.beginResweep { s with
          stale := s.stale.takeWord c
          render := { s.render with captureCount := 0 } } c))) ∧
    (¬waiting → exec .resweepItem s = .next s)

/-- What the shared operations of an item do: beginning a cell word of a CAPTURE or RESWEEP item, with the free-entry
wait of R42 and the order of reads of R45; and FREE_ENTRY_WAIT_END. The picture words of a RESWEEP item are the
distinct words that its cells within the picture sample, in ascending address order (R8, R45). -/
def Obligations.ACellWordBeginsWhenTheQueueHasRoom : Prop :=
  (∀ (p : ParamSet) (straps : BitVec 2) (c : CellWord), p.Valid straps → c.line < 512 → c.index < 32 →
    let n := match p.format with
      | .tone4 => 4
      | .dot1 => 16
    let py := p.originY + c.line * p.stepY / 16
    (∀ a : Addr, a ∈ p.sampledWords c ↔ py < p.height ∧
      ∃ cx, cx / 16 = c.index ∧ p.originX + cx * p.stepX / 16 < p.width ∧
        a.toNat = p.base + py * p.pitch + (p.originX + cx * p.stepX / 16) / n) ∧
    (p.sampledWords c).Pairwise fun a b => a.toNat < b.toNat) ∧
  (∀ (s : State) (r : CaptureRecord) (c : CellWord) (rest : List CellWord),
    s.nextCaptureWord r [] = { s with render := { s.render with item := none } } ∧
    (s.queue.length ≤ 240 → s.nextCaptureWord r (c :: rest) = { s with
      render := { s.render with item := some (.capture r c rest .cellRead) }
      port := { s.port with renderWaiting := some (.readCell (s.standing.cellAddress c)) } }) ∧
    (240 < s.queue.length → s.nextCaptureWord r (c :: rest) =
      { s with render := { s.render with item := some (.capture r c rest .freeWait) } })) ∧
  (∀ (s : State) (c : CellWord),
    (240 < s.queue.length → s.beginResweep c =
      { s with render := { s.render with item := some (.resweep c [] (s.standing.sampledWords c) .freeWait) } }) ∧
    (s.queue.length ≤ 240 → s.standing.sampledWords c = [] → s.beginResweep c = { s with
      render := { s.render with item := some (.resweep c [] [] .cellRead) }
      port := { s.port with renderWaiting := some (.readCell (s.standing.cellAddress c)) } }) ∧
    ∀ a more, s.queue.length ≤ 240 → s.standing.sampledWords c = a :: more → s.beginResweep c = { s with
      render := { s.render with item := some (.resweep c [] (a :: more) .pictureRead) }
      port := { s.port with renderWaiting := some (.readPicture a) } }) ∧
  ∀ (s : State), s.por = false → s.queue.length ≤ 240 →
    (∀ r c rest, s.render.item = some (.capture r c rest .freeWait) → exec .freeEntryWaitEnd s =
      .next (State.afterEvent { s with
        render := { s.render with item := some (.capture r c rest .cellRead) }
        port := { s.port with renderWaiting := some (.readCell (s.standing.cellAddress c)) } })) ∧
    (∀ c got, s.render.item = some (.resweep c got [] .freeWait) → exec .freeEntryWaitEnd s =
      .next (State.afterEvent { s with
        render := { s.render with item := some (.resweep c got [] .cellRead) }
        port := { s.port with renderWaiting := some (.readCell (s.standing.cellAddress c)) } })) ∧
    (∀ c got a more, s.render.item = some (.resweep c got (a :: more) .freeWait) → exec .freeEntryWaitEnd s =
      .next (State.afterEvent { s with
        render := { s.render with item := some (.resweep c got (a :: more) .pictureRead) }
        port := { s.port with renderWaiting := some (.readPicture a) } }))

/-- The stale set at marks and takes (R68, R69, R70, R71). -/
def Obligations.TheStaleSetMarksAndMovesOn : Prop :=
  (∀ (t : StaleSet) (p : Nat → Bool) (depth : Nat) (l : Fin 512),
    (t.mark p depth).lines[l] = (if p l.val = true then ⟨true, depth⟩ else t.lines[l]) ∧
    t.lowerHolds.lines[l] = ⟨t.lines[l].stale, t.lines[l].hold - 1⟩ ∧
    (t.mark p depth).posLine = t.posLine ∧ (t.mark p depth).posWord = t.posWord ∧
    t.lowerHolds.posLine = t.posLine ∧ t.lowerHolds.posWord = t.posWord) ∧
  (∀ (t : StaleSet) (c : CellWord) (l : Fin 512), c.line < 512 → c.index < 32 →
    (t.takeWord c).lines[l] = (if c.index = 0 ∧ l.val = c.line then ⟨false, t.lines[l].hold⟩ else t.lines[l]) ∧
    (c.index < 31 → (t.takeWord c).posLine = c.line ∧ (t.takeWord c).posWord = c.index + 1) ∧
    (c.index = 31 → (t.takeWord c).posLine = (c.line + 1) % 512 ∧ (t.takeWord c).posWord = 0)) ∧
  ∀ t : StaleSet, t.posLine < 512 →
    (t.posWord ≠ 0 → t.offer = some ⟨t.posLine, t.posWord⟩) ∧
    (t.posWord = 0 →
      (t.offer = none ↔ ∀ l : Fin 512, ¬(t.lines[l].stale = true ∧ t.lines[l].hold = 0)) ∧
      ∀ c, t.offer = some c → c.index = 0 ∧ ∃ h : c.line < 512, t.lines[c.line].stale = true ∧
      t.lines[c.line].hold = 0 ∧
        ∀ l : Fin 512, t.lines[l].stale = true → t.lines[l].hold = 0 →
          (c.line + 512 - t.posLine) % 512 ≤ (l.val + 512 - t.posLine) % 512)

/-- WIPE_ITEM and WIPE_WRITE_DONE (R46, R47, R99, R100). That the report block made due by LIT is asked for before the
port's decision at this completion is the model's choice (log 33). -/
def Obligations.TheWipeZeroesThePlaneWordByWord : Prop :=
  (∀ s : State, s.por = false → s.seq.panel = .clearing → s.render.item = none → s.control.checked = none →
    s.port.rendering = false → s.render.wipePosition < 16384 →
    let a : Addr := BitVec.ofNat 18 (s.standing.planeStart + s.render.wipePosition)
    exec .wipeItem s = .next (State.afterEvent { s with
      render := { s.render with item := some (.wipe a) }
      port := { s.port with renderWaiting := some (.wipe a) } })) ∧
  ∀ (s : State) (a : Addr), s.ReadyInstant →
    let zeroed : State := { s with
      dram := Memory.writeLanes s.dram a .both 0
      port := { s.port with current := none, deciding := true } }
    let moved : State := { zeroed with
      render := { s.render with item := none, wipePosition := s.render.wipePosition + 1 } }
    (s.port.current = some (.render (.wipe a) false) → exec .wipeWriteDone s = .next zeroed.afterEvent) ∧
    (s.port.current = some (.render (.wipe a) true) →
      (s.render.wipePosition + 1 < 16384 → exec .wipeWriteDone s = .next moved.afterEvent) ∧
      (s.render.wipePosition + 1 = 16384 → s.seq.panel = .clearing → s.seq.erasesDone = false →
        exec .wipeWriteDone s = .next (State.afterEvent { moved with seq := { s.seq with wipeDone := true } })) ∧
      (s.render.wipePosition + 1 = 16384 → s.seq.panel = .clearing → s.seq.erasesDone = true →
        exec .wipeWriteDone s = .next (State.afterEvent (State.enterCause { moved with
          seq := { s.seq with wipeDone := true, panel := .lit, litTimer := some 3000000 }
          report := { s.report with quietArmed := false } } .lit))))

/-- PICTURE_READ_DONE (R45, R77, R78) and WRITE_BACK_DONE (R33, R43, R44, R46). -/
def Obligations.PictureReadsAndWriteBacksComplete : Prop :=
  (∀ (s : State) (a : Addr), s.Ready →
    let ended : MemoryPort := { s.port with current := none, deciding := true }
    (s.port.current = some (.render (.readPicture a) false) → exec .pictureReadDone s =
      .next (State.afterEvent { s with port := ended })) ∧
    (s.port.current = some (.render (.readPicture a) true) → ∀ c got first,
      (∀ b more, s.render.item = some (.resweep c got (first :: b :: more) .pictureRead) → exec .pictureReadDone s =
        .next (State.afterEvent { s with
          render := { s.render with item := some (.resweep c (got ++ [(a, s.readWord a)]) (b :: more) .pictureRead) }
          port := { ended with renderWaiting := some (.readPicture b) } })) ∧
      (s.render.item = some (.resweep c got [first] .pictureRead) → exec .pictureReadDone s =
        .next (State.afterEvent { s with
          render := { s.render with item := some (.resweep c (got ++ [(a, s.readWord a)]) [] .cellRead) }
          port := { ended with renderWaiting := some (.readCell (s.standing.cellAddress c)) } })))) ∧
  (∀ (s : State) (a : Addr) (w : Word), s.Ready →
    let landed : State := { s with
      dram := Memory.writeLanes s.dram a .both w
      port := { s.port with current := none, deciding := true } }
    (s.port.current = some (.render (.writeBack a w) false) → exec .writeBackDone s = .next landed.afterEvent) ∧
    (s.port.current = some (.render (.writeBack a w) true) →
      (∀ r c rest v, s.render.item = some (.capture r c rest (.writeBack v)) → exec .writeBackDone s =
        .next (landed.nextCaptureWord r rest).afterEvent) ∧
      ∀ c got toRead v, s.render.item = some (.resweep c got toRead (.writeBack v)) → exec .writeBackDone s =
        .next (State.afterEvent { landed with render := { s.render with item := none } })))

/-- CELL_WORD_READ_DONE (R33, R43): the targets are compared with the word read; the changed word is to be written
back, an unchanged one is finished; a read for an abandoned item is discarded (R46). The cells an item evaluates, and
the picture word and the bits of it that give each its pixel value (R3, R27): a CAPTURE item the columns of its
rectangle from the record's data, a RESWEEP item all sixteen from the words read. -/
def Obligations.ACellWordIsComparedWithItsTargets : Prop :=
  (∀ (p : ParamSet) (c : CellWord), c.index < 32 →
    let n := match p.format with
      | .tone4 => 4
      | .dot1 => 16
    let px (cx : Nat) : Nat := p.originX + cx * p.stepX / 16
    let py := p.originY + c.line * p.stepY / 16
    let value (w : Word) (cx : Nat) : Nat := match p.format with
      | .tone4 => (w.extractLsb' (12 - 4 * (px cx % 4)) 4).toNat
      | .dot1 => if w.getLsbD (15 - px cx % 16) = true then 1 else 0
    let columns := (List.range 512).filter fun cx => decide (cx / 16 = c.index)
    (∀ r rest stage,
      let ts := (RenderItem.capture r c rest stage).targets p
      (p.rectangle r = none → ts = []) ∧
      ∀ q, p.rectangle r = some q →
        ts.map (·.1) = columns.filter (fun cx => decide (q.column0 ≤ cx) && decide (cx ≤ q.column1)) ∧
        ∀ x ∈ ts, x.2 = p.target x.1 c.line (value r.data x.1)) ∧
    ∀ got toRead stage,
      let ts := (RenderItem.resweep c got toRead stage).targets p
      ts.map (·.1) = columns ∧ ∀ x ∈ ts,
        (p.width ≤ px x.1 ∨ p.height ≤ py → x.2 = p.target x.1 c.line 0) ∧
        ∀ w, (got.map (·.1)).Nodup → (BitVec.ofNat 18 (p.base + py * p.pitch + px x.1 / n), w) ∈ got →
          x.2 = p.target x.1 c.line (value w x.1)) ∧
  ∀ (s : State) (a : Addr), s.Ready →
    let ended : MemoryPort := { s.port with current := none, deciding := true }
    (s.port.current = some (.render (.readCell a) false) → exec .cellWordReadDone s =
      .next (State.afterEvent { s with port := ended })) ∧
    (s.port.current = some (.render (.readCell a) true) →
      (∀ r c rest, s.render.item = some (.capture r c rest .cellRead) →
        let out := compareTargets c.line ((RenderItem.capture r c rest .cellRead).targets s.standing) s.queue
          (s.readWord a)
        (out.2 ≠ s.readWord a → exec .cellWordReadDone s = .next (State.afterEvent { s with
          queue := out.1
          render := { s.render with item := some (.capture r c rest (.writeBack out.2)) }
          port := { ended with renderWaiting := some (.writeBack a out.2) } })) ∧
        (out.2 = s.readWord a → exec .cellWordReadDone s =
          .next (State.nextCaptureWord { s with queue := out.1, port := ended } r rest).afterEvent)) ∧
      ∀ c got toRead, s.render.item = some (.resweep c got toRead .cellRead) →
        let out := compareTargets c.line ((RenderItem.resweep c got toRead .cellRead).targets s.standing) s.queue
          (s.readWord a)
        (out.2 ≠ s.readWord a → exec .cellWordReadDone s = .next (State.afterEvent { s with
          queue := out.1
          render := { s.render with item := some (.resweep c got toRead (.writeBack out.2)) }
          port := { ended with renderWaiting := some (.writeBack a out.2) } })) ∧
        (out.2 = s.readWord a → exec .cellWordReadDone s = .next (State.afterEvent { s with
          queue := out.1, render := { s.render with item := none }, port := ended })))

/-- The comparison of R43 step 3: every evaluated cell's working-copy bit becomes its target, every other bit stands,
and one change arrival goes to the queue for each cell that differed, in order. -/
def Obligations.TheComparisonSetsEvaluatedBits : Prop :=
  ∀ (line : Nat) (targets : List (Nat × Bool)) (q : List CellOrder) (w : Word),
    (targets.map fun x => x.1 % 16).Nodup →
    (∀ x ∈ targets, cellBitOf (compareTargets line targets q w).2 x.1 = x.2) ∧
    (∀ cx, (∀ x ∈ targets, x.1 % 16 ≠ cx % 16) →
      cellBitOf (compareTargets line targets q w).2 cx = cellBitOf w cx) ∧
    (compareTargets line targets q w).1 =
      (targets.filter fun x => cellBitOf w x.1 != x.2).foldl (fun q x => changeArrival q x.1 line x.2) q

/-- A change arrival (R35). -/
def Obligations.AChangeArrivalCoalescesOrJoins : Prop :=
  ∀ (q : List CellOrder) (column line : Nat) (bit : Bool), (q.map fun o => (o.column, o.line)).Nodup →
    ((∃ o ∈ q, o.column = column ∧ o.line = line) →
      changeArrival q column line bit = q.filter (fun o => !(decide (o.column = column) && decide (o.line = line)))) ∧
    ((∀ o ∈ q, ¬(o.column = column ∧ o.line = line)) →
      changeArrival q column line bit = q ++ [⟨column, line, if bit = true then .light else .quench⟩])

/-! ### The address stage -/

/-- SUSTAIN_CYCLE_START in LIT with a waiting order (R82, R86, R87, R88, R36, R151). -/
def Obligations.ASlotInLitTakesABurst : Prop :=
  ∀ (s : State) (head : CellOrder) (rest : List CellOrder), s.ReadyInstant → s.address.running = true →
    s.address.phase ≠ .a → s.seq.panel = .lit → s.queue = head :: rest → 1 ≤ s.standing.gatherWindow →
    let window := s.queue.take s.standing.gatherWindow
    let matching (o : CellOrder) : Bool := decide (o.line = head.line) && decide (o.kind = head.kind)
    let all := window.filter matching
    let kept := all.filter fun o =>
      !(s.seq.outX.getLsbD (o.column / 64)) && !(s.seq.outY.getLsbD (o.line / 64))
    let dropped := all.length - kept.length
    let fit := fitPulse s.address.currentA s.standing.addressDelay s.standing.addressWidth
    exec .sustainCycleStart s = .next (State.afterEvent { s with
      queue := (window.filter fun o => !matching o) ++ s.queue.drop s.standing.gatherWindow
      address := { s.address with
        cycleA := s.address.currentA
        cycleB := s.address.currentB
        phase := .a
        cellsAddressed := s.address.cellsAddressed + BitVec.ofNat 32 kept.length
        droppedOrders := BitVec.ofNat 16 (min 65535 (s.address.droppedOrders.toNat + dropped))
        pulse := if kept = [] then none
          else some ⟨.burst head.line head.kind (kept.map (·.column)), fit.1, fit.2, false⟩ }
      glass := s.glass.applyBurst head.line head.kind (kept.map (·.column))
      report := { s.report with quietArmed := true } })

/-- SUSTAIN_CYCLE_START with no order to take (R82, R85, R94, R99): a global erase in CLEARING while the count is
below 8, the eighth of which sets erases done or enters LIT; otherwise only the cycle begins. The first cycle of a
sustain just started begins at once (R81): it is the next step due. That the account of the glass is dark from the slot
on, and not from the end of the pulse, is the model's choice (log 16), and so is that this first cycle comes before an
input that is seen at the same moment with a debounce of 0 (log 36). -/
def Obligations.ASlotInClearingErasesThePanel : Prop :=
  ∀ s : State, s.por = false → s.address.running = true → s.address.phase ≠ .a →
    let comes (t : State) : Prop :=
      (s.address.phase = .notBegun → dueUrgent s = some t.afterEvent) ∧
      (s.ReadyInstant → exec .sustainCycleStart s = .next t.afterEvent)
    let opened : AddressStage := { s.address with
      cycleA := s.address.currentA, cycleB := s.address.currentB, phase := .a }
    let fit := fitPulse s.address.currentA s.standing.addressDelay s.standing.addressWidth
    let erased : State := { s with
      address := { opened with
        globalErases := s.address.globalErases + 1, pulse := some ⟨.globalErase, fit.1, fit.2, false⟩ }
      glass := ⟨true, []⟩ }
    (s.seq.panel = .clearing → s.address.globalErases < 7 → comes erased) ∧
    (s.seq.panel = .clearing → s.address.globalErases = 7 → s.seq.wipeDone = false →
      comes { erased with seq := { s.seq with erasesDone := true } }) ∧
    (s.seq.panel = .clearing → s.address.globalErases = 7 → s.seq.wipeDone = true →
      comes (State.enterCause { erased with
        seq := { s.seq with erasesDone := true, panel := .lit, litTimer := some 3000000 }
        report := { s.report with quietArmed := false } } .lit)) ∧
    ((s.seq.panel = .clearing ∧ 8 ≤ s.address.globalErases) ∨ (s.seq.panel = .lit ∧ s.queue = []) →
      comes { s with address := opened })

/-- PHASE_B_START, ADDRESS_PULSE_START and ADDRESS_PULSE_END (R82, R92); RAMP_TICK (R83); and the output pins that
follow from the phase and the pulse in hand: the sustain phase drives, the select buses, the pulse strobes (R80, R92,
R94). -/
def Obligations.PhasesPulsesAndRampTicks : Prop :=
  (∀ s : State,
    (s.susA = true ↔ s.address.running = true ∧ s.address.phase = .a) ∧
    (s.susB = true ↔ s.address.running = true ∧ s.address.phase = .b) ∧
    (s.address.pulse = none → s.lineSelect = none ∧ s.columnSelect = [] ∧ s.writeStrobe = false ∧
      s.eraseStrobe = false ∧ s.globalEraseStrobe = false) ∧
    (∀ line kind columns delay width on, s.address.pulse = some ⟨.burst line kind columns, delay, width, on⟩ →
      s.lineSelect = some line ∧ s.columnSelect = columns ∧ s.globalEraseStrobe = false ∧
      (s.writeStrobe = true ↔ on = true ∧ kind = .light) ∧ (s.eraseStrobe = true ↔ on = true ∧ kind = .quench)) ∧
    ∀ delay width on, s.address.pulse = some ⟨.globalErase, delay, width, on⟩ →
      s.lineSelect = none ∧ s.columnSelect = [] ∧ s.writeStrobe = false ∧ s.eraseStrobe = false ∧
      s.globalEraseStrobe = on) ∧
  (∀ s : State, s.Ready →
    (s.address.running = true → s.address.phase = .a → s.address.pulse = none → exec .phaseBStart s =
      .next (State.afterEvent { s with address := { s.address with phase := .b } })) ∧
    (∀ p, s.address.pulse = some p → p.strobe = false → exec .addressPulseStart s =
      .next (State.afterEvent { s with address := { s.address with pulse := some { p with strobe := true } } })) ∧
    (∀ p, s.address.pulse = some p → p.strobe = true → exec .addressPulseEnd s =
      .next (State.afterEvent { s with address := { s.address with pulse := none } })) ∧
    (∀ p, s.address.pulse = some p → exec .phaseBStart s = .next s)) ∧
  ((tickInterval 0 = none ∧ tickInterval 1 = some 500 ∧ tickInterval 2 = some 1000 ∧ tickInterval 3 = some 2000 ∧
    tickInterval 4 = some 4000 ∧ State.reset.standing.rampSelect = 2) ∧
  ∀ s : State, s.Ready →
    let toward (current target : Nat) : Nat :=
      if current < target then current + 1 else if target < current then current - 1 else current
    (s.address.running = true → s.address.tick ≠ none → exec .rampTick s =
      .next (State.afterEvent { s with address := { s.address with
        currentA := toward s.address.currentA s.standing.phaseA
        currentB := toward s.address.currentB s.standing.phaseB } })) ∧
    (s.address.running = false ∨ s.address.tick = none → exec .rampTick s = .next s))

/-- The pulse used (R91), in the integers. -/
def Obligations.ThePulseUsedFitsPhaseA : Prop :=
  ∀ A D Wd : Nat, 32 ≤ A → A ≤ 128 → 4 ≤ D → D ≤ 24 → 8 ≤ Wd → Wd ≤ 32 →
    let used := fitPulse A D Wd
    ((used.2 : Int) = if (D : Int) + Wd > (A : Int) - 4 then max 8 ((A : Int) - 4 - D) else Wd) ∧
    ((used.1 : Int) = if (D : Int) + used.2 > (A : Int) - 4 then (A : Int) - 4 - used.2 else D) ∧
    4 ≤ used.1 ∧ 8 ≤ used.2 ∧ used.1 + used.2 + 4 ≤ A

/-! ### The sequencer -/

/-- FAULT_INPUT_CHANGE (R106): the level is followed; the debounce timer of a live input starts at its active level
and stops when the input leaves it. The debounce times (R107). The clause for POR asserted, that the level alone is
followed and no timer starts, is the model's reading, DEDUCED, and no rule of the manual (log 15). -/
def Obligations.AFaultInputStartsOrStopsItsDebounce : Prop :=
  (debounceMicros 0 = 0 ∧ debounceMicros 1 = 2 ∧ debounceMicros 2 = 32 ∧ debounceMicros 3 = 500) ∧
  (∀ s : State, s.por = true →
    (∀ level, s.seq.hvok ≠ level → exec (.faultInputChange .hvok level) s =
      .next { s with seq := { s.seq with hvok := level, debounceHvok := none } }) ∧
    (∀ level, s.seq.hvoc ≠ level → exec (.faultInputChange .hvoc level) s =
      .next { s with seq := { s.seq with hvoc := level, debounceHvoc := none } }) ∧
    (∀ g level, g < 8 → s.seq.gfx.getLsbD g ≠ level → exec (.faultInputChange (.group .x g) level) s =
      .next { s with seq := { s.seq with
        gfx := withBit s.seq.gfx g level, debounceX := s.seq.debounceX.setIfInBounds g none } }) ∧
    ∀ g level, g < 8 → s.seq.gfy.getLsbD g ≠ level → exec (.faultInputChange (.group .y g) level) s =
      .next { s with seq := { s.seq with
        gfy := withBit s.seq.gfy g level, debounceY := s.seq.debounceY.setIfInBounds g none } }) ∧
  (∀ (b : Byte) (g k : Nat) (level : Bool), g < 8 → (withBit b g level).getLsbD k = if k = g then level else b.getLsbD k) ∧
  ∀ s : State, s.Ready →
    let timer (active : Prop) [Decidable active] : Timer :=
      if active then some (debounceMicros s.standing.debounce) else none
    (∀ level, s.seq.hvok ≠ level → exec (.faultInputChange .hvok level) s = .next (State.afterEvent { s with
      seq := { s.seq with
        hvok := level
        debounceHvok := timer ((s.seq.panel = .charging ∧ level = true) ∨
          ((s.seq.panel = .clearing ∨ s.seq.panel = .lit) ∧ level = false)) } })) ∧
    (∀ level, s.seq.hvoc ≠ level → exec (.faultInputChange .hvoc level) s = .next (State.afterEvent { s with
      seq := { s.seq with
        hvoc := level
        debounceHvoc := timer ((s.seq.panel = .charging ∨ s.seq.panel = .clearing ∨ s.seq.panel = .lit) ∧
          level = true) } })) ∧
    (∀ g level, g < 8 → s.seq.gfx.getLsbD g ≠ level → exec (.faultInputChange (.group .x g) level) s =
      .next (State.afterEvent { s with seq := { s.seq with
        gfx := withBit s.seq.gfx g level
        debounceX := s.seq.debounceX.setIfInBounds g (timer ((s.seq.panel = .clearing ∨ s.seq.panel = .lit) ∧
          s.standing.maskX.getLsbD g = false ∧ s.seq.outX.getLsbD g = false ∧ level = true)) } })) ∧
    (∀ g level, g < 8 → s.seq.gfy.getLsbD g ≠ level → exec (.faultInputChange (.group .y g) level) s =
      .next (State.afterEvent { s with seq := { s.seq with
        gfy := withBit s.seq.gfy g level
        debounceY := s.seq.debounceY.setIfInBounds g (timer ((s.seq.panel = .clearing ∨ s.seq.panel = .lit) ∧
          s.standing.maskY.getLsbD g = false ∧ s.seq.outY.getLsbD g = false ∧ level = true)) } }))

/-- HVOK_SEEN (R97, R98, R81, R106): CHARGING is left for CLEARING and the sustain starts. -/
def Obligations.HvokSeenEntersClearing : Prop :=
  ∀ s : State, s.ReadyInstant → s.seq.panel = .charging → s.seq.debounceHvok ≠ none →
    ∃ t, exec .hvokSeen s = .next t ∧ s.EntersClearing t ∧ t.glass = s.glass ∧
      t.address = { s.address with
        running := true
        phase := .notBegun
        currentA := s.standing.phaseA
        currentB := s.standing.phaseB
        tick := tickInterval s.standing.rampSelect
        globalErases := 0 } ∧
      t.seq.debounceHvok = (if s.seq.hvok = false then some (debounceMicros s.standing.debounce) else none) ∧
      ∀ axis g, g < 8 → t.seq.groupTimer axis g =
        if (s.standing.mask axis).getLsbD g = false ∧ (s.seq.outSet axis).getLsbD g = false ∧
          (s.seq.inputs axis).getLsbD g = true then some (debounceMicros s.standing.debounce) else none

/-- The four fault events begin a recovery (R97, R102, R106, R108, R109). The first strike of GROUP_STRIKE puts the group
in the one-strike set, the second takes it out of service, and no other group moves (R108). That a commit waiting stands
through the whole row and is applied after it is the model's choice: R148 lets it come before or after (log 34). -/
def Obligations.AFaultBeginsARecovery : Prop :=
  (∀ s : State, s.ReadyInstant →
    let sameGroups (t : State) : Prop := t.seq.strikeX = s.seq.strikeX ∧ t.seq.strikeY = s.seq.strikeY ∧
      t.seq.outX = s.seq.outX ∧ t.seq.outY = s.seq.outY
    (s.seq.panel = .clearing ∨ s.seq.panel = .lit → s.seq.debounceHvok ≠ none →
      ∃ t, exec .hvokLost s = .next t ∧ s.Recovers .hvLow t ∧ sameGroups t) ∧
    (s.seq.panel = .charging ∨ s.seq.panel = .clearing ∨ s.seq.panel = .lit → s.seq.debounceHvoc ≠ none →
      ∃ t, exec .hvocSeen s = .next t ∧ s.Recovers .hvOvercurrent t ∧ sameGroups t) ∧
    (s.seq.panel = .charging → s.seq.chargeTimer ≠ none →
      ∃ t, exec .chargeTimeout s = .next t ∧ s.Recovers .chargeTimeout t ∧ sameGroups t) ∧
    (∀ axis g, g < 8 → s.seq.panel = .clearing ∨ s.seq.panel = .lit → (s.standing.mask axis).getLsbD g = false →
      (s.seq.outSet axis).getLsbD g = false → s.seq.groupTimer axis g ≠ none →
      ∃ t, exec (.groupStrike axis g) s = .next t ∧ s.Recovers .groupFault t)) ∧
  (∀ (axis : Axis) (g : Nat) (s : State), s.ReadyInstant → g < 8 → s.seq.panel = .clearing ∨ s.seq.panel = .lit →
    (s.standing.mask axis).getLsbD g = false → (s.seq.outSet axis).getLsbD g = false →
    s.seq.groupTimer axis g ≠ none → ∃ t, exec (.groupStrike axis g) s = .next t ∧
      ((s.seq.strikeSet axis).getLsbD g = false → (t.seq.strikeSet axis).getLsbD g = true ∧
        t.seq.outSet axis = s.seq.outSet axis) ∧
      ((s.seq.strikeSet axis).getLsbD g = true → (t.seq.strikeSet axis).getLsbD g = false ∧
        (t.seq.outSet axis).getLsbD g = true) ∧
      ∀ axis' g', g' < 8 → (axis', g') ≠ (axis, g) →
        (t.seq.strikeSet axis').getLsbD g' = (s.seq.strikeSet axis').getLsbD g' ∧
        (t.seq.outSet axis').getLsbD g' = (s.seq.outSet axis').getLsbD g')

/-- REST_END and LIT_DURATION_EXPIRY (R97, R100, R103). -/
def Obligations.TheRestEndsAndTheCountIsForgiven : Prop :=
  ∀ s : State, s.ReadyInstant →
    (s.seq.panel = .resting → s.seq.restTimer ≠ none → s.seq.outX ≠ 255 → s.seq.outY ≠ 255 →
      exec .restEnd s = .next (State.afterEvent (State.reportDue { s with seq := { s.seq with
        panel := .charging
        hven := true
        chargeTimer := some 60000
        restTimer := none
        debounceHvok := if s.seq.hvok = true then some (debounceMicros s.standing.debounce) else none
        debounceHvoc := if s.seq.hvoc = true then some (debounceMicros s.standing.debounce) else none } }))) ∧
    (s.seq.panel = .resting → s.seq.restTimer ≠ none → s.seq.outX = 255 ∨ s.seq.outY = 255 →
      ∃ t, exec .restEnd s = .next t ∧ t.seq = { s.seq with
          panel := .barred, restTimer := none, faults := s.seq.faults ||| FaultKind.noGroups.bit } ∧
        t.report.causes = s.report.causes ||| Cause.fault.bit ∧
        t.report.atn = decide (t.report.causes &&& s.standing.enables ≠ 0) ∧ s.ReportMade t ∧ s.WorkEmptied t ∧
        s.CopyLetGo t ∧ t.control = s.control ∧ t.address = s.address ∧ s.EntryKeeps t ∧
        t.report.quietArmed = s.report.quietArmed ∧
        ∀ a owned, s.port.current = some (.copy a owned) → t.port.current = some (.copy a owned)) ∧
    (s.seq.panel = .lit → s.seq.litTimer ≠ none → exec .litDurationExpiry s =
      .next (State.afterEvent { s with seq := { s.seq with recoveryCount := 0, litTimer := none } }))

/-! ### The memory port and the report unit -/

/-- REFRESH_DUE and REFRESH_DONE (R116). That the pending refresh lasts through the grant, by R116 and not by R112, and
beyond it when a further refresh waits, is the model's choice (log 10). -/
def Obligations.RefreshFallsDueAndAdvancesTheRow : Prop :=
  ∀ s : State, s.Ready →
    (s.port.refreshTimer ≠ none → exec .refreshDue s = .next (State.afterEvent { s with port := { s.port with
      pendingRefresh := true, refreshWaiting := true, refreshTimer := some 14 } })) ∧
    (s.port.current = some .refresh → exec .refreshDone s = .next (State.afterEvent { s with port := { s.port with
      current := none, deciding := true, refreshRow := s.port.refreshRow + 1, pendingRefresh := s.port.refreshWaiting } }))

/-- GRANT_DECISION (R112, R113, R117): at the end of a grant the waiting request of the highest rank is granted; at an
idle port a request is granted, and of several that have arrived together any one may be. The decision is due at once:
it is made before any row that waits for it (R113, R117, R122), so that after a passthrough a waiting report block is
granted before the next bus cycle (R113, R118). That the decision comes after the urgent steps of a completion, and so
after the requests that these make, is the model's choice (log 33). -/
def Obligations.TheHighestRankIsGranted : Prop :=
  (∀ s : State, s.ReadyUrgent →
    let given (g : Grant) : MemoryPort := { s.port with current := some g, deciding := false }
    let grant (p : MemoryPort) := exec .grantDecision s = .next (State.afterEvent { s with port := p })
    (s.port.current ≠ none → exec .grantDecision s = .next s) ∧
    (s.port.current = none → s.port.deciding = true →
      (s.port.refreshWaiting = true → grant { given .refresh with refreshWaiting := false }) ∧
      (s.port.refreshWaiting = false →
        (s.port.passWaiting = true → grant { given .passthrough with passWaiting := false }) ∧
        (s.port.passWaiting = false →
          (s.port.reportWaiting = some .block → grant { given (.reportBlock none) with reportWaiting := none }) ∧
          (∀ n, s.port.reportWaiting = some (.image n) → grant { given (.image n) with reportWaiting := none }) ∧
          (s.port.reportWaiting = none →
            (∀ a, s.port.renderWaiting = some a → grant { given (.render a true) with renderWaiting := none }) ∧
            (s.port.renderWaiting = none →
              (∀ a, s.port.copyWaiting = some a → grant { given (.copy a true) with copyWaiting := none }) ∧
              (s.port.copyWaiting = none → grant { s.port with deciding := false })))))) ∧
    (s.port.current = none → s.port.deciding = false →
      let grantable (p : MemoryPort) : Prop :=
        (s.port.refreshWaiting = true ∧ p = { given .refresh with refreshWaiting := false }) ∨
        (s.port.passWaiting = true ∧ p = { given .passthrough with passWaiting := false }) ∨
        (s.port.reportWaiting = some .block ∧ p = { given (.reportBlock none) with reportWaiting := none }) ∨
        (∃ n, s.port.reportWaiting = some (.image n) ∧ p = { given (.image n) with reportWaiting := none }) ∨
        (∃ a, s.port.renderWaiting = some a ∧ p = { given (.render a true) with renderWaiting := none }) ∨
        ∃ a, s.port.copyWaiting = some a ∧ p = { given (.copy a true) with copyWaiting := none }
      (∀ p, grantable p → (∀ q, grantable q → q = p) → grant p) ∧
      ((∃ p, grantable p) → ∃ p ties, grantable p ∧ grant { p with ties := ties }) ∧
      ((∀ p, ¬grantable p) → exec .grantDecision s = .next s))) ∧
  (∀ s : State, s.ReadyUrgent → s.port.current = none → s.passage.presented = none ∨ s.sysclr = true →
    s.port.deciding = true ∨ s.port.refreshWaiting = true ∨ s.port.passWaiting = true ∨ s.port.reportWaiting ≠ none ∨
      s.port.renderWaiting ≠ none ∨ s.port.copyWaiting ≠ none →
    ∃ t, exec .grantDecision s = .next t ∧ dueInstant s = some t ∧
      (rowSeenAtOnce s = none → s.control.handOvers = [] → dueAny s = some t)) ∧
  ∀ (a : Addr) (s : State), s.ReadyUrgent → s.sysclr = false → s.passage.inHand = none → s.passage.presented = none →
    rowSeenAtOnce s = none → s.control.handOvers = [] → s.port.current = none → s.port.deciding = true →
    s.port.refreshWaiting = false → s.port.passWaiting = false → s.port.reportWaiting = some .block →
    ∃ t words, exec (.busRead a) s = .next t ∧ t.port.current = some (.reportBlock (some words)) ∧
      t.passage.inHand = some (.read a) ∧ t.port.passWaiting = true

/-- What the port drives in the grant in progress (R52, R53, R112, R114, R116, R118, R119, R130): for each access its
word address with both strobes, and for a write the lanes under the write strobe and the data, a block's words in
ascending order; for a refresh the row the counter names (that it has the row strobe alone is log 27); nothing without a
grant. When a grant completes, memory is as its write strobes leave it. -/
def Obligations.ThePortDrivesTheAccessInProgress : Prop :=
  (∀ s : State,
    let page := 65280 + 65536 * s.straps.toNat
    let read (a : Addr) : PortDrive := ⟨.word a, true, true, none, none⟩
    let write (a : Addr) (strobe : Option Lanes) (w : Word) : PortDrive := ⟨.word a, true, true, strobe, some w⟩
    let block (first : Nat) (words : List Word) : List PortDrive :=
      (List.range words.length).map fun i => write (BitVec.ofNat 18 (page + first + i)) (some .both) (words.getD i 0)
    let strobe (a : Addr) (lanes : Option Lanes) : Option Lanes :=
      if s.standing.inPlane a.toNat = true then none else lanes
    (s.port.current = none → s.portDrives = []) ∧
    (s.port.current = some .refresh → s.portDrives = [⟨.row s.port.refreshRow, true, false, none, none⟩]) ∧
    (s.port.current = some .passthrough →
      (∀ a, s.passage.inHand = some (.read a) → s.portDrives = [read a]) ∧
      ∀ a lanes data d, s.passage.inHand = some (.write a lanes data d) →
        s.portDrives = [write a (strobe a lanes) data]) ∧
    (∀ words, s.port.current = some (.reportBlock (some words)) → s.portDrives = block 240 words) ∧
    (∀ n first words,
      (n, first, words) ∈ [(1, 1, State.reset.control.params.toList.take 16),
        (2, 17, State.reset.control.params.toList.drop 16), (3, 64, State.reset.control.tables.toList.take 16),
        (4, 80, State.reset.control.tables.toList.drop 16)] →
      s.port.current = some (.image n) → s.portDrives = block first words) ∧
    (∀ a owned,
      (s.port.current = some (.render (.readPicture a) owned) → s.portDrives = [read a]) ∧
      (s.port.current = some (.render (.readCell a) owned) → s.portDrives = [read a]) ∧
      (s.port.current = some (.render (.wipe a) owned) → s.portDrives = [write a (some .both) 0]) ∧
      (s.port.current = some (.copy (.read a) owned) → s.portDrives = [read a]) ∧
      ∀ w, (s.port.current = some (.render (.writeBack a w) owned) → s.portDrives = [write a (some .both) w]) ∧
        (s.port.current = some (.copy (.write a w) owned) →
          s.portDrives = [write a (strobe a (some .both)) w]))) ∧
  ∀ (c : Instr) (s t : State), s.Ready → exec c s = .next t → s.port.current ≠ none → t.port.current = none →
    c ≠ .porAssert →
    t.dram = s.portDrives.foldl (fun m d =>
      match d.address, d.writeStrobe, d.data with
      | .word a, some lanes, some w => Memory.writeLanes m a lanes w
      | _, _, _ => m) s.dram

/-- REPORT_BLOCK_GRANT (R154): the due flag is cleared, the count rises, the values are taken. REPORT_BLOCK_DONE and
IMAGE_GRANT_DONE (R118, R119, R140, R154, R155): the words stand from their offset on, and the report unit goes on;
the image is the POR values whatever the staged words are. That a further block is asked for before the port's decision at
the completion is the model's choice (log 33). -/
def Obligations.ReportBlocksAndTheImage : Prop :=
  (∀ s : State, s.por = false → s.port.current = some (.reportBlock none) →
    exec .reportBlockGrant s = .next (State.afterEvent { s with
      report := { s.report with due := false, writeCount := s.report.writeCount + 1, block := .writing }
      port := { s.port with current := some (.reportBlock (some (s.reportWords (s.report.writeCount + 1)))) } })) ∧
  (∀ s : State, s.Ready →
    let page := 65280 + 65536 * s.straps.toNat
    let ended : State := { s with port := { s.port with current := none, deciding := true } }
    let idle (t : State) : State :=
      if t.report.due = true then { t with
        report := { t.report with block := .waiting }
        port := { t.port with reportWaiting := some .block } }
      else { t with report := { t.report with block := .idle } }
    (∀ words, s.port.current = some (.reportBlock (some words)) → exec .reportBlockDone s =
      .next (idle (ended.writeBlock (page + 240) words)).afterEvent) ∧
    (∀ n first words,
      (n, first, words) ∈ [(1, 1, State.reset.control.params.toList.take 16),
        (2, 17, State.reset.control.params.toList.drop 16), (3, 64, State.reset.control.tables.toList.take 16)] →
      s.port.current = some (.image n) → exec .imageGrantDone s = .next (State.afterEvent
        { ended.writeBlock (page + first) words with
          port := { ended.port with reportWaiting := some (.image (n + 1)) } })) ∧
    (s.port.current = some (.image 4) → exec .imageGrantDone s =
      .next (idle (ended.writeBlock (page + 80) (State.reset.control.tables.toList.drop 16))).afterEvent))

/-- The report record (R137, R138): the sixteen words as numbers, low byte + 256 × high byte. -/
def Obligations.TheRecordHasTheStatedLayout : Prop :=
  ∀ (s : State) (count : Word), s.seq.recoveryCount ≤ 5 → s.capture.records.length ≤ 16 → s.queue.length ≤ 256 →
    s.copy.rowsRemaining ≤ 1024 →
    let word (o : Nat) : Nat := ((s.reportWords count).getD (o - 240) 0).toNat
    let state := match s.seq.panel with
      | .dark => 0
      | .charging => 1
      | .clearing => 2
      | .lit => 3
      | .resting => 4
      | .barred => 5
    let outcome := match s.control.lastOutcome with
      | .none => 0
      | .done => 1
      | .busy => 2
      | .wrongState => 3
      | .range => 4
      | .unknown => 5
    let copied := match s.copy.outcome with
      | .none => 0
      | .active => 1
      | .done => 2
      | .cancelled => 3
      | .aborted => 4
      | .guarded => 5
    (s.reportWords count).length = 16 ∧ word 240 = count.toNat ∧ word 241 = state + 256 * s.seq.recoveryCount ∧
    word 242 = s.seq.faults.toNat + 256 * s.control.clampSet.toNat ∧
    word 243 = s.seq.outX.toNat + 256 * s.seq.outY.toNat ∧ word 244 = s.report.causes.toNat ∧
    word 245 = s.control.lastCode.toNat + 256 * outcome ∧
    word 246 = s.capture.records.length + 256 * copied ∧ word 247 = s.queue.length ∧
    word 248 = (s.stale.lines.toList.filter (·.stale)).length ∧ word 249 = s.copy.rowsRemaining ∧
    word 250 + 65536 * word 251 = s.address.cellsAddressed.toNat ∧ word 252 = s.capture.overflows.toNat ∧
    word 253 = s.passage.guardedWrites.toNat ∧ word 254 = s.address.droppedOrders.toNat ∧
    word 255 = s.seq.strikeX.toNat + 256 * s.seq.strikeY.toNat

/-! ### The copy engine -/

/-- START COPY (R125): BUSY while a copy is active; RANGE when a check fails; DONE with the request latched, the
position at row 0, word 0, and the first step made (O48). That the DONE clause holds also while the granted access of an
aborted copy is still in progress is the model's choice (log 37): R134 says that the access ends before a new copy can
start. -/
def Obligations.StartCopyChecksAndLatches : Prop :=
  ∀ (h : HandOver) (rest : List HandOver) (s : State), s.ReadyUrgent → s.control.handOvers = h :: rest →
    h.isCommand = true → lowByte h.data = 6 →
    let t := s.takeHandOver h rest
    let q := s.control.copyRequest
    let destEnd := q.dest + (q.rows - 1) * q.destPitch + q.words - 1
    let passes := (q.mode = .copy → q.source + (q.rows - 1) * q.sourcePitch + q.words - 1 ≤ 262143) ∧
      destEnd ≤ 262143 ∧
      ∀ x, q.dest ≤ x → x ≤ destEnd → s.standing.inPlane x = false ∧ inControlPage s.straps x = false
    (s.copy.outcome = .active → exec .startCopy s = .next (t.recordCommand 6 .busy).afterEvent) ∧
    (s.copy.outcome ≠ .active → ¬passes → exec .startCopy s = .next (t.recordCommand 6 .range).afterEvent) ∧
    (s.copy.outcome ≠ .active → passes → exec .startCopy s = .next (State.recordCommand (State.beginCopyWord { t with
      copy := ⟨some q, 0, 0, .none, q.rows, .active, false⟩ }) 6 .done).afterEvent)

/-- The copy request (R123): the fields of the ten copy-request words, each brought into range. -/
def Obligations.TheCopyRequestIsBroughtIntoRange : Prop :=
  ∀ c : ControlBlock,
    let word (o : Nat) : Nat := (c.copyWord o).toNat
    let q := c.copyRequest
    (q.mode = .copy ↔ word 96 = 0) ∧ q.source = min 262143 (word 97 + 65536 * word 98) ∧
    q.sourcePitch = min 1023 (word 99) ∧ q.dest = min 262143 (word 100 + 65536 * word 101) ∧
    q.destPitch = (if word 102 = 0 then 1 else min 1024 (word 102)) ∧ q.words = min 255 (word 103) + 1 ∧
    q.rows = min 1023 (word 104) + 1 ∧ q.fill = c.copyWord 105 ∧
    ∀ r i, r < q.rows → i < q.words →
      (q.mode = .copy → q.source + (q.rows - 1) * q.sourcePitch + q.words - 1 ≤ 262143 →
        (q.sourceAt r i).toNat = q.source + r * q.sourcePitch + i) ∧
      (q.dest + (q.rows - 1) * q.destPitch + q.words - 1 ≤ 262143 →
        (q.destAt r i).toNat = q.dest + r * q.destPitch + i)

/-- CANCEL COPY (R132, R133). -/
def Obligations.CancelCopyEndsOrWaits : Prop :=
  ∀ (h : HandOver) (rest : List HandOver) (s : State), s.ReadyUrgent → s.control.handOvers = h :: rest →
    h.isCommand = true → lowByte h.data = 7 →
    let t := s.takeHandOver h rest
    (s.copy.outcome ≠ .active → exec .cancelCopy s = .next (t.recordCommand 7 .wrongState).afterEvent) ∧
    (s.copy.outcome = .active → s.copy.cancelling = true →
      exec .cancelCopy s = .next (t.recordCommand 7 .done).afterEvent) ∧
    (s.copy.outcome = .active → s.copy.cancelling = false → ∀ a, s.port.current = some (.copy a true) →
      exec .cancelCopy s = .next (State.recordCommand { t with copy := { s.copy with cancelling := true } } 7
        .done).afterEvent) ∧
    (s.copy.outcome = .active → s.copy.cancelling = false → (∀ a, s.port.current ≠ some (.copy a true)) →
      exec .cancelCopy s = .next (State.recordCommand (State.enterCause { t with
        port := { s.port with copyWaiting := none }
        capture := s.capture.release s.copy.decision
        copy := { s.copy with outcome := .cancelled, step := .none, cancelling := false } } .copyEnd) 7
        .done).afterEvent)

/-- How a word of a copy begins (R126, R65, R129): a COPY asks for its source word; a FILL, or a COPY that has read its
word, receives the guard decision of its destination write and asks for it, or waits for a place. COPY_READ_DONE and
COPY_PLACE_GIVEN (R59, R126, R127, R129, R132, R134). Two points of COPY_READ_DONE are the model's and no rule of the
manual: that it may come before a hand-over that waits, which R132 says of the last destination write only (log 21,
DEDUCED), and that the report block made due by COPY END is asked for before the port's decision (log 33). -/
def Obligations.CopyWordsBeginAndCopyReadsComplete : Prop :=
  ((∀ (s : State) (q : CopyRequest), s.copy.request = some q →
    (q.mode = .copy → s.beginCopyWord = { s with
      copy := { s.copy with step := .sourceRead }
      port := { s.port with copyWaiting := some (.read (q.sourceAt s.copy.row s.copy.word)) } }) ∧
    (q.mode = .fill → s.beginCopyWord = s.beginCopyWrite q.fill)) ∧
  ∀ (s : State) (q : CopyRequest) (w : Word), s.copy.request = some q →
    let a := q.destAt s.copy.row s.copy.word
    let needs := s.seq.panel = .lit ∧ s.standing.inPicture a.toNat = true
    let free := s.capture.records.length + s.capture.reservations < 16 ∧ s.passage.holds = false
    let asked : MemoryPort := { s.port with copyWaiting := some (.write a w) }
    (¬needs → s.beginCopyWrite w = { s with copy := { s.copy with step := .destWrite w .unplaced }, port := asked }) ∧
    (needs → free → s.beginCopyWrite w = { s with
      capture := { s.capture with reservations := s.capture.reservations + 1 }
      copy := { s.copy with step := .destWrite w .placed }
      port := asked }) ∧
    (needs → ¬free → s.beginCopyWrite w = { s with copy := { s.copy with step := .waitPlace w } })) ∧
  ((∀ (s : State) (a : Addr), s.ReadyInstant →
    let ended : State := { s with port := { s.port with current := none, deciding := true } }
    (s.port.current = some (.copy (.read a) false) → exec .copyReadDone s = .next ended.afterEvent) ∧
    (s.port.current = some (.copy (.read a) true) → s.copy.step = .sourceRead →
      (s.copy.cancelling = true → exec .copyReadDone s = .next (State.afterEvent (State.enterCause { ended with
        copy := { s.copy with outcome := .cancelled, step := .none, cancelling := false } } .copyEnd))) ∧
      (s.copy.cancelling = false → exec .copyReadDone s = .next (ended.beginCopyWrite (s.readWord a)).afterEvent))) ∧
  ∀ (s : State) (w : Word) (q : CopyRequest), s.por = false → s.copy.step = .waitPlace w → s.copy.request = some q →
    s.capture.records.length + s.capture.reservations < 16 → s.passage.holds = false →
    exec .copyPlaceGiven s = .next (State.afterEvent { s with
      capture := { s.capture with reservations := s.capture.reservations + 1 }
      copy := { s.copy with step := .destWrite w .placed }
      port := { s.port with copyWaiting := some (.write (q.destAt s.copy.row s.copy.word) w) } }))

/-- COPY_WRITE_DONE (R126, R128, R130, R132, R133, R134). It may come before a hand-over that arrives together with it
(R132, which says so of the last destination write and a CANCEL COPY; for the other writes and hand-overs it is log 21,
DEDUCED): a CANCEL COPY handed over then finds the copy as the completion left it. That a report block made due by COPY
END or OVERFLOW is asked for before the port's decision at this completion is the model's choice (log 33). -/
def Obligations.ACopyWriteMovesOnOrEnds : Prop :=
  ∀ (s : State) (a : Addr) (w : Word), s.ReadyInstant →
    let ended : State := { s with port := { s.port with current := none, deciding := true } }
    (s.port.current = some (.copy (.write a w) false) →
      (s.standing.inPlane a.toNat = true → exec .copyWriteDone s = .next ended.afterEvent) ∧
      (s.standing.inPlane a.toNat = false → exec .copyWriteDone s =
        .next (ended.landed a .both w .unplaced).afterEvent)) ∧
    (s.port.current = some (.copy (.write a w) true) → ∀ v d q, s.copy.step = .destWrite v d → s.copy.request = some q →
      (s.standing.inPlane a.toNat = true → exec .copyWriteDone s = .next (State.afterEvent (State.enterCause { ended with
        capture := s.capture.release d
        copy := { s.copy with outcome := .guarded, step := .none, cancelling := false } } .copyEnd))) ∧
      (s.standing.inPlane a.toNat = false →
        let landed := ended.landed a .both w d
        let next : CopyEngine :=
          if s.copy.word + 1 = q.words then
            { s.copy with row := s.copy.row + 1, word := 0, rowsRemaining := s.copy.rowsRemaining - 1 }
          else { s.copy with word := s.copy.word + 1 }
        (s.copy.cancelling = true → exec .copyWriteDone s = .next (State.afterEvent (State.enterCause { landed with
          copy := { next with outcome := .cancelled, step := .none, cancelling := false } } .copyEnd))) ∧
        (s.copy.cancelling = false → s.copy.word + 1 = q.words → s.copy.row + 1 = q.rows → exec .copyWriteDone s =
          .next (State.afterEvent (State.enterCause { landed with
            copy := { next with outcome := .done, step := .none, cancelling := false } } .copyEnd))) ∧
        (s.copy.cancelling = false → ¬(s.copy.word + 1 = q.words ∧ s.copy.row + 1 = q.rows) → exec .copyWriteDone s =
          .next (State.beginCopyWord { landed with copy := next }).afterEvent)))

/-! ### Causes -/

/-- A cause enters the pending cause set (R150, R152, R153): its bit is set, ATN is decided again, a report is due.
And the close of every event (R151, and the last row of R40's table; logs 18, 19): QUIET enters when all its
conditions hold, and disarms; the count of an idle render stage becomes 0; nothing else moves. That a
report block which QUIET makes due at a completion is asked for before the port's decision is the model's choice (log 33). -/
def Obligations.CausesEnterAndEveryEventClosesWithQuiet : Prop :=
  (∀ (s : State) (c : Cause), ∃ t, s.enterCause c = t ∧ s.ReportMade t ∧
    t.report.causes = s.report.causes ||| (match c with
      | .quiet => 1#6
      | .copyEnd => 2#6
      | .fault => 4#6
      | .overflow => 8#6
      | .refused => 16#6
      | .lit => 32#6) ∧
    (t.report.atn = true ↔ ∃ k, k < 6 ∧ t.report.causes.getLsbD k = true ∧ s.standing.enables.getLsbD k = true) ∧
    t = { s with
      report := { t.report with quietArmed := s.report.quietArmed, writeCount := s.report.writeCount }
      port := { s.port with reportWaiting := t.port.reportWaiting } }) ∧
  (∀ s : State, s.por = false →
    (s.AllQuiet → s.afterEvent.report.causes = s.report.causes ||| 1#6 ∧ s.afterEvent.report.quietArmed = false ∧
      s.afterEvent.report.atn = decide ((s.report.causes ||| 1#6) &&& s.standing.enables ≠ 0) ∧
      s.ReportMade s.afterEvent) ∧
    (¬s.AllQuiet → s.afterEvent.report = s.report ∧ s.afterEvent.port = s.port) ∧
    (s.afterEvent.render.captureCount =
      if s.seq.panel = .lit ∧ s.render.item = none ∧ s.control.checked = none ∧ s.capture.records = [] ∧
        s.stale.offer = none then 0 else s.render.captureCount) ∧
    s.afterEvent = { s with
      report := { s.afterEvent.report with writeCount := s.report.writeCount }
      port := { s.port with reportWaiting := s.afterEvent.port.reportWaiting }
      render := { s.render with captureCount := s.afterEvent.render.captureCount } })

/-! ### Picture and panel -/

/-- The inverse range of one pixel column or row (R9): the cells that sample it, and their bounds. -/
def Obligations.TheInverseRangeIsExact : Prop :=
  ∀ origin step px : Nat, 4 ≤ step → step ≤ 64 →
    (∀ cx, cx < 512 → (origin + cx * step / 16 = px ↔
      ∃ r, inverseRange origin step px px = some r ∧ r.1 ≤ cx ∧ cx ≤ r.2)) ∧
    (∀ r, inverseRange origin step px px = some r → origin ≤ px ∧
      r.1 = (16 * (px - origin) + step - 1) / step ∧
      r.2 = min 511 ((16 * (px - origin + 1) + step - 1) / step - 1) ∧ r.1 ≤ r.2)

/-- Captured writes and the forward mapping agree (R4, R7, R10, R11): a cell lies in the cell rectangle of a write
exactly when the pixel it samples is one of the write's carried pixels. -/
def Obligations.TheRectangleIsTheCellsThatSampleACarriedPixel : Prop :=
  ∀ (p : ParamSet) (straps : BitVec 2) (r : CaptureRecord) (cx cy : Nat), p.Valid straps → cx < 512 → cy < 512 →
    let n := match p.format with
      | .tone4 => 4
      | .dot1 => 16
    let px := p.originX + cx * p.stepX / 16
    let py := p.originY + cy * p.stepY / 16
    let carried := match r.lanes with
      | .both => True
      | .high => px % n < n / 2
      | .low => n / 2 ≤ px % n
    ((∃ q, p.rectangle r = some q ∧ q.line0 ≤ cy ∧ cy ≤ q.line1 ∧ q.column0 ≤ cx ∧ cx ≤ q.column1) ↔
      px < p.width ∧ py < p.height ∧ r.address.toNat = p.base + py * p.pitch + px / n ∧ carried)

/-- The target dot (R19, R20, R22–R26). -/
def Obligations.TheTargetDotFollowsTheStandingSet : Prop :=
  ∀ (p : ParamSet) (straps : BitVec 2) (cx cy value : Nat), p.Valid straps → cx < 512 → cy < 512 → value < 16 →
    let px := p.originX + cx * p.stepX / 16
    let py := p.originY + cy * p.stepY / 16
    let level := if p.width ≤ px ∨ p.height ≤ py then p.margin
      else match p.format with
        | .tone4 => p.toneMap.toList.getD value 0
        | .dot1 => if value = 0 then p.toneMap.toList.getD 0 0 else p.toneMap.toList.getD 15 0
    let threshold := match p.ditherMode with
      | .ordered => p.matrix.toList.getD (4 * (cy % 4) + cx % 4) 0
      | .fixed => p.fixedThreshold
    let inCursor := (p.cursorLine ≤ cy ∧ cy < p.cursorLine + p.thicknessH) ∨
      (p.cursorColumn ≤ cx ∧ cx < p.cursorColumn + p.thicknessV)
    ((p.target cx cy value = true) ↔ ((level > threshold ∧ ¬inCursor) ∨ (¬level > threshold ∧ inCursor))) ∧
    (¬inCursor → level = 0 → p.target cx cy value = false) ∧ (¬inCursor → level = 16 → p.target cx cy value = true)

/-! ### What every step keeps -/

/-- The state after reset has every invariant below. -/
def Obligations.ResetHasEveryInvariant : Prop :=
  State.reset.MemoryOk ∧ State.reset.OutputsOk ∧ State.reset.PassageOk ∧ State.reset.PortOk ∧ State.reset.SequencerOk ∧
    State.reset.DebounceOk ∧ State.reset.AddressOk ∧ State.reset.CaptureOk ∧ State.reset.QueueOk ∧
    State.reset.RenderOk ∧ State.reset.CopyOk ∧ State.reset.LawOk

/-- Memory keeps its canonical form, ATN and HVEN their meaning (R95, R152, R155); one bus cycle at a time, with one
access of its own, and RDY low throughout (R51, R58–R60, R66); the port decides with no grant in progress, and a
refresh is pending until its grant has completed (R113, R116; by R112 until it is granted: that the model follows R116
here is its choice, log 10). -/
def Obligations.EveryStepKeepsMemoryOutputsAndPassage : Prop :=
  (∀ s t : State, step s = .next t → (s.MemoryOk → t.MemoryOk) ∧ (s.OutputsOk → t.OutputsOk)) ∧
  (∀ s t : State, step s = .next t → (s.PassageOk → t.PassageOk) ∧ (s.PortOk → t.PortOk))

/-- The sequencer's counts, sets and timers stay consistent (R95, R99, R102–R104, R108), and a debounce timer runs
only for a live input at its active level (R106). -/
def Obligations.EveryStepKeepsTheSequencer : Prop :=
  ∀ s t : State, step s = .next t → (s.SequencerOk → t.SequencerOk) ∧
    (s.SequencerOk → s.DebounceOk → s.SetsOk → t.DebounceOk)

/-- The sustain runs exactly in CLEARING and LIT, every pulse fits its phase A, every committed set is valid (R1, R80,
R82–R84, R86, R91, R94). -/
def Obligations.EveryStepKeepsTheAddressStage : Prop :=
  ∀ s t : State, s.AddressOk → s.QueueOk → step s = .next t → t.AddressOk

/-- Records plus reservations never exceed 16, and a hold never the list's depth (R57, R69); never more than 256 orders,
never two for one cell (R34). -/
def Obligations.EveryStepKeepsListAndQueue : Prop :=
  (∀ s t : State, s.CaptureOk → step s = .next t → t.CaptureOk) ∧
  (∀ s t : State, s.QueueOk → step s = .next t → t.QueueOk)

/-- An item or a copy in hand has its one access waiting or granted (R39, R43, R46, R47, R124, R126, R132, R133). -/
def Obligations.EveryStepKeepsItemAndCopy : Prop :=
  ∀ s t : State, step s = .next t →
    (s.RenderOk → s.QueueOk → s.SequencerOk → t.RenderOk) ∧ (s.CopyOk → t.CopyOk)

/-- The correspondence law (R38): at every step, while the sequencer is LIT, each cell of an in-service X group and an
in-service Y group shows its cell-plane bit when no order waits for it, and the opposite when an order of the bit's
kind waits. -/
def Obligations.EveryStepKeepsTheCorrespondenceLaw : Prop :=
  ∀ s t : State, s.LawOk → step s = .next t → t.LawOk

end Slice0Statements
end

