-- ==== Sys2Proof/Laws/Memory.lean ====
section
/-! SUPPORT. What the memory operations do: reading after writing, and that every operation keeps the
canonical form. -/

namespace Sys2Proof.Machine

/-! ### One lane -/

theorem Memory.get?_set_same (m : List Host.Cell) (k : Nat) (b : Byte) : Memory.get? (Memory.set m k b) k = some b := by
  induction m with
  | nil => simp [Memory.set, Memory.get?]
  | cons c m ih =>
    obtain ⟨j, d⟩ := c
    simp only [Memory.set]
    split_ifs <;> simp_all [Memory.get?, eq_comm]

theorem Memory.get?_set_other (m : List Host.Cell) {k j : Nat} (b : Byte) (h : j ≠ k) :
    Memory.get? (Memory.set m k b) j = Memory.get? m j := by
  induction m with
  | nil => simp [Memory.set, Memory.get?, h.symm]
  | cons c m ih =>
    obtain ⟨i, d⟩ := c
    simp only [Memory.set]
    split_ifs with h1 h2
    · simp [Memory.get?, h.symm]
    · subst h2; simp [Memory.get?, h.symm]
    · simp only [Memory.get?, ih]

theorem Memory.risesFrom_set {low : Nat} {m : List Host.Cell} {k : Nat} {b : Byte}
    (h : Memory.risesFrom low m = true) (hl : low ≤ k) (hk : k < 2 * Config.dramWords) :
    Memory.risesFrom low (Memory.set m k b) = true := by
  induction m generalizing low with
  | nil => simp [Memory.set, Memory.risesFrom, hl, hk]
  | cons c m ih =>
    obtain ⟨j, d⟩ := c
    simp only [Memory.risesFrom, Bool.and_eq_true, decide_eq_true_eq] at h
    simp only [Memory.set]
    split_ifs with h1 h2
    · simp only [Memory.risesFrom, Bool.and_eq_true, decide_eq_true_eq]
      exact ⟨⟨hl, hk⟩, ⟨by omega, h.1.2⟩, h.2⟩
    · subst h2
      simp only [Memory.risesFrom, Bool.and_eq_true, decide_eq_true_eq]
      exact ⟨⟨hl, hk⟩, h.2⟩
    · simp only [Memory.risesFrom, Bool.and_eq_true, decide_eq_true_eq]
      exact ⟨h.1, ih h.2 (by omega)⟩

theorem laneKey_lt (a : Addr) (high : Bool) : laneKey a high < 2 * Config.dramWords := by
  have := a.isLt
  unfold laneKey Config.dramWords
  split <;> omega

theorem laneKey_inj {a b : Addr} {x y : Bool} : laneKey a x = laneKey b y ↔ a = b ∧ x = y := by
  unfold laneKey
  constructor
  · intro h
    cases x <;> cases y <;> simp at h ⊢ <;> first | omega | (apply BitVec.eq_of_toNat_eq; omega)
  · rintro ⟨rfl, rfl⟩; rfl

/-! ### The canonical form -/

theorem Memory.wf_set {m : List Host.Cell} (a : Addr) (high : Bool) (b : Byte) (h : Memory.wf m = true) :
    Memory.wf (Memory.set m (laneKey a high) b) = true :=
  Memory.risesFrom_set h (Nat.zero_le _) (laneKey_lt a high)

theorem Memory.wf_writeLanes {m : List Host.Cell} (a : Addr) (l : Lanes) (w : Word) (h : Memory.wf m = true) :
    Memory.wf (Memory.writeLanes m a l w) = true := by
  cases l <;> simp [Memory.writeLanes, Lanes.hasHigh, Lanes.hasLow, Memory.wf_set, h]

theorem State.wf_writeWord {s : State} (a : Addr) (l : Lanes) (w : Word) (h : Memory.wf s.dram = true) :
    Memory.wf (s.writeWord a l w).dram = true := Memory.wf_writeLanes a l w h

theorem State.wf_writeBlock {s : State} (ws : List Word) (a : Nat) (h : Memory.wf s.dram = true) :
    Memory.wf (s.writeBlock a ws).dram = true := by
  induction ws generalizing s a with
  | nil => exact h
  | cons w ws ih => exact ih (a + 1) (State.wf_writeWord _ _ _ h)

/-- A listed lane of a list in canonical form reads as it is listed. -/
theorem Memory.get?_of_mem {low : Nat} {m : List Host.Cell} {k : Nat} {b : Byte}
    (h : Memory.risesFrom low m = true) (hm : (k, b) ∈ m) : low ≤ k ∧ Memory.get? m k = some b := by
  induction m generalizing low with
  | nil => cases hm
  | cons c m ih =>
    obtain ⟨j, x⟩ := c
    simp only [Memory.risesFrom, Bool.and_eq_true, decide_eq_true_eq] at h
    rcases List.mem_cons.1 hm with e | hm
    · cases e
      exact ⟨h.1.1, by simp [Memory.get?]⟩
    · obtain ⟨hk, hg⟩ := ih h.2 hm
      refine ⟨by omega, ?_⟩
      rw [Memory.get?, if_neg (by omega), hg]

theorem Memory.wf_nil : Memory.wf [] = true := rfl

theorem State.wf_reset : Memory.wf State.reset.dram = true := rfl

/-! ### Reading after writing -/

/-- The write stores into the lane. -/
def Lanes.carries (l : Lanes) (high : Bool) : Bool := if high then l.hasHigh else l.hasLow

/-- One lane of a word. -/
def laneOf (w : Word) (high : Bool) : Byte := if high then highByte w else lowByte w

theorem State.readLane_writeWord (s : State) (a b : Addr) (l : Lanes) (w : Word) (high : Bool) :
    (s.writeWord a l w).readLane b high =
      if b = a ∧ l.carries high = true then laneOf w high else s.readLane b high := by
  have key : ∀ (m : List Host.Cell) (x : Bool) (v : Byte),
      Memory.get? (Memory.set m (laneKey a x) v) (laneKey b high) =
        if b = a ∧ high = x then some v else Memory.get? m (laneKey b high) := by
    intro m x v
    split_ifs with h
    · obtain ⟨rfl, rfl⟩ := h; exact Memory.get?_set_same _ _ _
    · exact Memory.get?_set_other _ _ (fun e => h (laneKey_inj.1 e))
  by_cases h : b = a
  · subst h
    cases l <;> cases high <;>
      simp [State.readLane, State.writeWord, Memory.writeLanes, Lanes.hasHigh, Lanes.hasLow, Lanes.carries, laneOf,
        key]
  · cases l <;> cases high <;>
      simp [State.readLane, State.writeWord, Memory.writeLanes, Lanes.hasHigh, Lanes.hasLow, key, h]

theorem State.readWord_writeWord_other (s : State) {a b : Addr} (l : Lanes) (w : Word) (h : b ≠ a) :
    (s.writeWord a l w).readWord b = s.readWord b := by
  simp [State.readWord, State.readLane_writeWord, h]

theorem State.readWord_writeWord_same (s : State) (a : Addr) (w : Word) : (s.writeWord a .both w).readWord a = w := by
  simp only [State.readWord, State.readLane_writeWord, laneOf, highByte, lowByte, Lanes.carries, Lanes.hasHigh,
    Lanes.hasLow]
  simp only [and_self, if_true, Bool.false_eq_true, if_false]
  apply BitVec.eq_of_getLsbD_eq
  intro i hi
  simp only [BitVec.getLsbD_append, BitVec.getLsbD_extractLsb']
  by_cases h : i < 8
  · simp [h]
  · have h1 : i - 8 < 8 := by omega
    have h2 : 8 + (i - 8) = i := by omega
    simp [h, h1, h2]

end Sys2Proof.Machine
end

