-- ==== Sys2Proof/Laws/State.lean ====
section
/-! SUPPORT. What each operation over State leaves as it was, field by field: no later proof unfolds a record
update to learn that a field is kept. -/

namespace Sys2Proof.Machine

@[simp] theorem State.endGrant_keeps (s : State) :
    s.endGrant.pending = s.pending ∧ s.endGrant.dram = s.dram ∧ s.endGrant.dramEpoch = s.dramEpoch ∧
    s.endGrant.straps = s.straps ∧ s.endGrant.por = s.por ∧ s.endGrant.sysclr = s.sysclr ∧
    s.endGrant.standing = s.standing ∧ s.endGrant.passage = s.passage ∧ s.endGrant.capture = s.capture ∧
    s.endGrant.render = s.render ∧ s.endGrant.queue = s.queue ∧ s.endGrant.stale = s.stale ∧
    s.endGrant.address = s.address ∧ s.endGrant.glass = s.glass ∧ s.endGrant.seq = s.seq ∧
    s.endGrant.copy = s.copy ∧ s.endGrant.control = s.control ∧ s.endGrant.report = s.report ∧
    s.endGrant.port.refreshWaiting = s.port.refreshWaiting ∧ s.endGrant.port.passWaiting = s.port.passWaiting ∧
    s.endGrant.port.reportWaiting = s.port.reportWaiting ∧ s.endGrant.port.renderWaiting = s.port.renderWaiting ∧
    s.endGrant.port.copyWaiting = s.port.copyWaiting ∧ s.endGrant.port.pendingRefresh = s.port.pendingRefresh ∧
    s.endGrant.port.refreshTimer = s.port.refreshTimer ∧ s.endGrant.port.refreshRow = s.port.refreshRow ∧
    s.endGrant.port.deciding = true ∧ s.endGrant.port.ties = s.port.ties := by
  repeat' first | exact rfl | constructor

@[simp] theorem State.askPassthrough_keeps (s : State) :
    s.askPassthrough.pending = s.pending ∧ s.askPassthrough.dram = s.dram ∧
    s.askPassthrough.dramEpoch = s.dramEpoch ∧ s.askPassthrough.straps = s.straps ∧ s.askPassthrough.por = s.por ∧
    s.askPassthrough.sysclr = s.sysclr ∧ s.askPassthrough.standing = s.standing ∧
    s.askPassthrough.passage = s.passage ∧ s.askPassthrough.capture = s.capture ∧
    s.askPassthrough.render = s.render ∧ s.askPassthrough.queue = s.queue ∧ s.askPassthrough.stale = s.stale ∧
    s.askPassthrough.address = s.address ∧ s.askPassthrough.glass = s.glass ∧ s.askPassthrough.seq = s.seq ∧
    s.askPassthrough.copy = s.copy ∧ s.askPassthrough.control = s.control ∧ s.askPassthrough.report = s.report ∧
    s.askPassthrough.port.current = s.port.current ∧ s.askPassthrough.port.refreshWaiting = s.port.refreshWaiting ∧
    s.askPassthrough.port.reportWaiting = s.port.reportWaiting ∧
    s.askPassthrough.port.renderWaiting = s.port.renderWaiting ∧
    s.askPassthrough.port.copyWaiting = s.port.copyWaiting ∧
    s.askPassthrough.port.pendingRefresh = s.port.pendingRefresh ∧
    s.askPassthrough.port.refreshTimer = s.port.refreshTimer ∧
    s.askPassthrough.port.refreshRow = s.port.refreshRow ∧
    s.askPassthrough.port.deciding = s.port.deciding ∧ s.askPassthrough.port.ties = s.port.ties := by
  repeat' first | exact rfl | constructor

@[simp] theorem State.askRender_keeps (s : State) (a : RenderAccess) :
    (s.askRender a).pending = s.pending ∧ (s.askRender a).dram = s.dram ∧ (s.askRender a).dramEpoch = s.dramEpoch ∧
    (s.askRender a).straps = s.straps ∧ (s.askRender a).por = s.por ∧ (s.askRender a).sysclr = s.sysclr ∧
    (s.askRender a).standing = s.standing ∧ (s.askRender a).passage = s.passage ∧
    (s.askRender a).capture = s.capture ∧ (s.askRender a).render = s.render ∧ (s.askRender a).queue = s.queue ∧
    (s.askRender a).stale = s.stale ∧ (s.askRender a).address = s.address ∧ (s.askRender a).glass = s.glass ∧
    (s.askRender a).seq = s.seq ∧ (s.askRender a).copy = s.copy ∧ (s.askRender a).control = s.control ∧
    (s.askRender a).report = s.report ∧ (s.askRender a).port.current = s.port.current ∧
    (s.askRender a).port.refreshWaiting = s.port.refreshWaiting ∧
    (s.askRender a).port.passWaiting = s.port.passWaiting ∧
    (s.askRender a).port.reportWaiting = s.port.reportWaiting ∧
    (s.askRender a).port.copyWaiting = s.port.copyWaiting ∧
    (s.askRender a).port.pendingRefresh = s.port.pendingRefresh ∧
    (s.askRender a).port.refreshTimer = s.port.refreshTimer ∧
    (s.askRender a).port.refreshRow = s.port.refreshRow ∧
    (s.askRender a).port.deciding = s.port.deciding ∧ (s.askRender a).port.ties = s.port.ties := by
  repeat' first | exact rfl | constructor

@[simp] theorem State.askCopy_keeps (s : State) (a : CopyAccess) :
    (s.askCopy a).pending = s.pending ∧ (s.askCopy a).dram = s.dram ∧ (s.askCopy a).dramEpoch = s.dramEpoch ∧
    (s.askCopy a).straps = s.straps ∧ (s.askCopy a).por = s.por ∧ (s.askCopy a).sysclr = s.sysclr ∧
    (s.askCopy a).standing = s.standing ∧ (s.askCopy a).passage = s.passage ∧ (s.askCopy a).capture = s.capture ∧
    (s.askCopy a).render = s.render ∧ (s.askCopy a).queue = s.queue ∧ (s.askCopy a).stale = s.stale ∧
    (s.askCopy a).address = s.address ∧ (s.askCopy a).glass = s.glass ∧ (s.askCopy a).seq = s.seq ∧
    (s.askCopy a).copy = s.copy ∧ (s.askCopy a).control = s.control ∧ (s.askCopy a).report = s.report ∧
    (s.askCopy a).port.current = s.port.current ∧ (s.askCopy a).port.refreshWaiting = s.port.refreshWaiting ∧
    (s.askCopy a).port.passWaiting = s.port.passWaiting ∧ (s.askCopy a).port.reportWaiting = s.port.reportWaiting ∧
    (s.askCopy a).port.renderWaiting = s.port.renderWaiting ∧
    (s.askCopy a).port.pendingRefresh = s.port.pendingRefresh ∧
    (s.askCopy a).port.refreshTimer = s.port.refreshTimer ∧ (s.askCopy a).port.refreshRow = s.port.refreshRow ∧
    (s.askCopy a).port.deciding = s.port.deciding ∧ (s.askCopy a).port.ties = s.port.ties := by
  repeat' first | exact rfl | constructor

@[simp] theorem State.decideAtn_keeps (s : State) :
    s.decideAtn.pending = s.pending ∧ s.decideAtn.dram = s.dram ∧ s.decideAtn.dramEpoch = s.dramEpoch ∧
    s.decideAtn.straps = s.straps ∧ s.decideAtn.por = s.por ∧ s.decideAtn.sysclr = s.sysclr ∧
    s.decideAtn.standing = s.standing ∧ s.decideAtn.passage = s.passage ∧ s.decideAtn.capture = s.capture ∧
    s.decideAtn.render = s.render ∧ s.decideAtn.queue = s.queue ∧ s.decideAtn.stale = s.stale ∧
    s.decideAtn.address = s.address ∧ s.decideAtn.glass = s.glass ∧ s.decideAtn.seq = s.seq ∧
    s.decideAtn.port = s.port ∧ s.decideAtn.copy = s.copy ∧ s.decideAtn.control = s.control ∧
    s.decideAtn.report.causes = s.report.causes ∧ s.decideAtn.report.quietArmed = s.report.quietArmed ∧
    s.decideAtn.report.due = s.report.due ∧ s.decideAtn.report.block = s.report.block ∧
    s.decideAtn.report.writeCount = s.report.writeCount := by
  repeat' first | exact rfl | constructor

@[simp] theorem State.reportDue_keeps (s : State) :
    s.reportDue.pending = s.pending ∧ s.reportDue.dram = s.dram ∧ s.reportDue.dramEpoch = s.dramEpoch ∧
    s.reportDue.straps = s.straps ∧ s.reportDue.por = s.por ∧ s.reportDue.sysclr = s.sysclr ∧
    s.reportDue.standing = s.standing ∧ s.reportDue.passage = s.passage ∧ s.reportDue.capture = s.capture ∧
    s.reportDue.render = s.render ∧ s.reportDue.queue = s.queue ∧ s.reportDue.stale = s.stale ∧
    s.reportDue.address = s.address ∧ s.reportDue.glass = s.glass ∧ s.reportDue.seq = s.seq ∧
    s.reportDue.copy = s.copy ∧ s.reportDue.control = s.control ∧ s.reportDue.port.current = s.port.current ∧
    s.reportDue.port.refreshWaiting = s.port.refreshWaiting ∧ s.reportDue.port.passWaiting = s.port.passWaiting ∧
    s.reportDue.port.renderWaiting = s.port.renderWaiting ∧ s.reportDue.port.copyWaiting = s.port.copyWaiting ∧
    s.reportDue.port.pendingRefresh = s.port.pendingRefresh ∧ s.reportDue.port.refreshTimer = s.port.refreshTimer ∧
    s.reportDue.port.refreshRow = s.port.refreshRow ∧
    s.reportDue.port.deciding = s.port.deciding ∧ s.reportDue.port.ties = s.port.ties ∧
    s.reportDue.report.causes = s.report.causes ∧
    s.reportDue.report.quietArmed = s.report.quietArmed ∧ s.reportDue.report.writeCount = s.report.writeCount ∧
    s.reportDue.report.atn = s.report.atn := by
  repeat' first | exact rfl | constructor

@[simp] theorem State.enterCause_keeps (s : State) (c : Cause) :
    (s.enterCause c).pending = s.pending ∧ (s.enterCause c).dram = s.dram ∧
    (s.enterCause c).dramEpoch = s.dramEpoch ∧ (s.enterCause c).straps = s.straps ∧ (s.enterCause c).por = s.por ∧
    (s.enterCause c).sysclr = s.sysclr ∧ (s.enterCause c).standing = s.standing ∧
    (s.enterCause c).passage = s.passage ∧ (s.enterCause c).capture = s.capture ∧
    (s.enterCause c).render = s.render ∧ (s.enterCause c).queue = s.queue ∧ (s.enterCause c).stale = s.stale ∧
    (s.enterCause c).address = s.address ∧ (s.enterCause c).glass = s.glass ∧ (s.enterCause c).seq = s.seq ∧
    (s.enterCause c).copy = s.copy ∧ (s.enterCause c).control = s.control ∧
    (s.enterCause c).port.current = s.port.current ∧ (s.enterCause c).port.refreshWaiting = s.port.refreshWaiting ∧
    (s.enterCause c).port.passWaiting = s.port.passWaiting ∧
    (s.enterCause c).port.renderWaiting = s.port.renderWaiting ∧
    (s.enterCause c).port.copyWaiting = s.port.copyWaiting ∧
    (s.enterCause c).port.pendingRefresh = s.port.pendingRefresh ∧
    (s.enterCause c).port.refreshTimer = s.port.refreshTimer ∧
    (s.enterCause c).port.refreshRow = s.port.refreshRow ∧
    (s.enterCause c).port.deciding = s.port.deciding ∧ (s.enterCause c).port.ties = s.port.ties ∧
    (s.enterCause c).report.quietArmed = s.report.quietArmed ∧
    (s.enterCause c).report.writeCount = s.report.writeCount := by
  repeat' first | exact rfl | constructor

@[simp] theorem State.enterFault_keeps (s : State) (k : FaultKind) :
    (s.enterFault k).pending = s.pending ∧ (s.enterFault k).dram = s.dram ∧
    (s.enterFault k).dramEpoch = s.dramEpoch ∧ (s.enterFault k).straps = s.straps ∧ (s.enterFault k).por = s.por ∧
    (s.enterFault k).sysclr = s.sysclr ∧ (s.enterFault k).standing = s.standing ∧
    (s.enterFault k).passage = s.passage ∧ (s.enterFault k).capture = s.capture ∧
    (s.enterFault k).render = s.render ∧ (s.enterFault k).queue = s.queue ∧ (s.enterFault k).stale = s.stale ∧
    (s.enterFault k).address = s.address ∧ (s.enterFault k).glass = s.glass ∧ (s.enterFault k).copy = s.copy ∧
    (s.enterFault k).control = s.control ∧ (s.enterFault k).seq.panel = s.seq.panel ∧
    (s.enterFault k).seq.recoveryCount = s.seq.recoveryCount ∧ (s.enterFault k).seq.strikeX = s.seq.strikeX ∧
    (s.enterFault k).seq.strikeY = s.seq.strikeY ∧ (s.enterFault k).seq.outX = s.seq.outX ∧
    (s.enterFault k).seq.outY = s.seq.outY ∧ (s.enterFault k).seq.erasesDone = s.seq.erasesDone ∧
    (s.enterFault k).seq.wipeDone = s.seq.wipeDone ∧ (s.enterFault k).seq.chargeTimer = s.seq.chargeTimer ∧
    (s.enterFault k).seq.restTimer = s.seq.restTimer ∧ (s.enterFault k).seq.litTimer = s.seq.litTimer ∧
    (s.enterFault k).seq.hven = s.seq.hven ∧ (s.enterFault k).seq.hvok = s.seq.hvok ∧
    (s.enterFault k).seq.hvoc = s.seq.hvoc ∧ (s.enterFault k).seq.gfx = s.seq.gfx ∧
    (s.enterFault k).seq.gfy = s.seq.gfy ∧ (s.enterFault k).seq.debounceHvok = s.seq.debounceHvok ∧
    (s.enterFault k).seq.debounceHvoc = s.seq.debounceHvoc ∧ (s.enterFault k).seq.debounceX = s.seq.debounceX ∧
    (s.enterFault k).seq.debounceY = s.seq.debounceY ∧ (s.enterFault k).port.current = s.port.current ∧
    (s.enterFault k).port.refreshWaiting = s.port.refreshWaiting ∧
    (s.enterFault k).port.passWaiting = s.port.passWaiting ∧
    (s.enterFault k).port.renderWaiting = s.port.renderWaiting ∧
    (s.enterFault k).port.copyWaiting = s.port.copyWaiting ∧
    (s.enterFault k).port.pendingRefresh = s.port.pendingRefresh ∧
    (s.enterFault k).port.refreshTimer = s.port.refreshTimer ∧
    (s.enterFault k).port.refreshRow = s.port.refreshRow ∧
    (s.enterFault k).port.deciding = s.port.deciding ∧ (s.enterFault k).port.ties = s.port.ties ∧
    (s.enterFault k).report.quietArmed = s.report.quietArmed ∧
    (s.enterFault k).report.writeCount = s.report.writeCount := by
  repeat' first | exact rfl | constructor

@[simp] theorem State.emptyWork_keeps (s : State) :
    s.emptyWork.pending = s.pending ∧ s.emptyWork.dram = s.dram ∧ s.emptyWork.dramEpoch = s.dramEpoch ∧
    s.emptyWork.straps = s.straps ∧ s.emptyWork.por = s.por ∧ s.emptyWork.sysclr = s.sysclr ∧
    s.emptyWork.standing = s.standing ∧ s.emptyWork.address = s.address ∧ s.emptyWork.glass = s.glass ∧
    s.emptyWork.seq = s.seq ∧ s.emptyWork.control = s.control ∧ s.emptyWork.report = s.report ∧
    s.emptyWork.capture.overflows = s.capture.overflows ∧ s.emptyWork.render.wipePosition = s.render.wipePosition ∧
    s.emptyWork.stale.posLine = s.stale.posLine ∧ s.emptyWork.stale.posWord = s.stale.posWord ∧
    s.emptyWork.port.refreshWaiting = s.port.refreshWaiting ∧
    s.emptyWork.port.reportWaiting = s.port.reportWaiting ∧
    s.emptyWork.port.pendingRefresh = s.port.pendingRefresh ∧ s.emptyWork.port.refreshTimer = s.port.refreshTimer ∧
    s.emptyWork.port.refreshRow = s.port.refreshRow ∧
    s.emptyWork.port.deciding = s.port.deciding ∧ s.emptyWork.port.ties = s.port.ties := by
  repeat' first | exact rfl | constructor

@[simp] theorem State.stopSustain_keeps (s : State) :
    s.stopSustain.pending = s.pending ∧ s.stopSustain.dram = s.dram ∧ s.stopSustain.dramEpoch = s.dramEpoch ∧
    s.stopSustain.straps = s.straps ∧ s.stopSustain.por = s.por ∧ s.stopSustain.sysclr = s.sysclr ∧
    s.stopSustain.standing = s.standing ∧ s.stopSustain.passage = s.passage ∧ s.stopSustain.capture = s.capture ∧
    s.stopSustain.render = s.render ∧ s.stopSustain.queue = s.queue ∧ s.stopSustain.stale = s.stale ∧
    s.stopSustain.seq = s.seq ∧ s.stopSustain.port = s.port ∧ s.stopSustain.copy = s.copy ∧
    s.stopSustain.control = s.control ∧ s.stopSustain.report = s.report ∧
    s.stopSustain.address.currentA = s.address.currentA ∧ s.stopSustain.address.currentB = s.address.currentB ∧
    s.stopSustain.address.cycleA = s.address.cycleA ∧ s.stopSustain.address.cycleB = s.address.cycleB ∧
    s.stopSustain.address.globalErases = s.address.globalErases ∧
    s.stopSustain.address.cellsAddressed = s.address.cellsAddressed ∧
    s.stopSustain.address.droppedOrders = s.address.droppedOrders := by
  repeat' first | exact rfl | constructor

@[simp] theorem State.startSustain_keeps (s : State) :
    s.startSustain.pending = s.pending ∧ s.startSustain.dram = s.dram ∧ s.startSustain.dramEpoch = s.dramEpoch ∧
    s.startSustain.straps = s.straps ∧ s.startSustain.por = s.por ∧ s.startSustain.sysclr = s.sysclr ∧
    s.startSustain.standing = s.standing ∧ s.startSustain.passage = s.passage ∧
    s.startSustain.capture = s.capture ∧ s.startSustain.render = s.render ∧ s.startSustain.queue = s.queue ∧
    s.startSustain.stale = s.stale ∧ s.startSustain.glass = s.glass ∧ s.startSustain.seq = s.seq ∧
    s.startSustain.port = s.port ∧ s.startSustain.copy = s.copy ∧ s.startSustain.control = s.control ∧
    s.startSustain.report = s.report ∧ s.startSustain.address.cycleA = s.address.cycleA ∧
    s.startSustain.address.cycleB = s.address.cycleB ∧ s.startSustain.address.pulse = s.address.pulse ∧
    s.startSustain.address.globalErases = s.address.globalErases ∧
    s.startSustain.address.cellsAddressed = s.address.cellsAddressed ∧
    s.startSustain.address.droppedOrders = s.address.droppedOrders := by
  repeat' first | exact rfl | constructor

@[simp] theorem State.enterCharging_keeps (s : State) :
    s.enterCharging.pending = s.pending ∧ s.enterCharging.dram = s.dram ∧ s.enterCharging.dramEpoch = s.dramEpoch ∧
    s.enterCharging.straps = s.straps ∧ s.enterCharging.por = s.por ∧ s.enterCharging.sysclr = s.sysclr ∧
    s.enterCharging.standing = s.standing ∧ s.enterCharging.passage = s.passage ∧
    s.enterCharging.capture = s.capture ∧ s.enterCharging.render = s.render ∧ s.enterCharging.queue = s.queue ∧
    s.enterCharging.stale = s.stale ∧ s.enterCharging.address = s.address ∧ s.enterCharging.glass = s.glass ∧
    s.enterCharging.copy = s.copy ∧ s.enterCharging.control = s.control ∧
    s.enterCharging.seq.recoveryCount = s.seq.recoveryCount ∧ s.enterCharging.seq.faults = s.seq.faults ∧
    s.enterCharging.seq.strikeX = s.seq.strikeX ∧ s.enterCharging.seq.strikeY = s.seq.strikeY ∧
    s.enterCharging.seq.outX = s.seq.outX ∧ s.enterCharging.seq.outY = s.seq.outY ∧
    s.enterCharging.seq.erasesDone = s.seq.erasesDone ∧ s.enterCharging.seq.wipeDone = s.seq.wipeDone ∧
    s.enterCharging.seq.litTimer = s.seq.litTimer ∧ s.enterCharging.seq.hvok = s.seq.hvok ∧
    s.enterCharging.seq.hvoc = s.seq.hvoc ∧ s.enterCharging.seq.gfx = s.seq.gfx ∧
    s.enterCharging.seq.gfy = s.seq.gfy ∧ s.enterCharging.seq.debounceX = s.seq.debounceX ∧
    s.enterCharging.seq.debounceY = s.seq.debounceY ∧ s.enterCharging.port.current = s.port.current ∧
    s.enterCharging.port.refreshWaiting = s.port.refreshWaiting ∧
    s.enterCharging.port.passWaiting = s.port.passWaiting ∧
    s.enterCharging.port.renderWaiting = s.port.renderWaiting ∧
    s.enterCharging.port.copyWaiting = s.port.copyWaiting ∧
    s.enterCharging.port.pendingRefresh = s.port.pendingRefresh ∧
    s.enterCharging.port.refreshTimer = s.port.refreshTimer ∧ s.enterCharging.port.refreshRow = s.port.refreshRow ∧
    s.enterCharging.port.deciding = s.port.deciding ∧ s.enterCharging.port.ties = s.port.ties ∧
    s.enterCharging.report.causes = s.report.causes ∧ s.enterCharging.report.quietArmed = s.report.quietArmed ∧
    s.enterCharging.report.writeCount = s.report.writeCount ∧ s.enterCharging.report.atn = s.report.atn := by
  repeat' first | exact rfl | constructor

@[simp] theorem State.clearingEntry_keeps (s : State) :
    s.clearingEntry.pending = s.pending ∧ s.clearingEntry.dram = s.dram ∧ s.clearingEntry.dramEpoch = s.dramEpoch ∧
    s.clearingEntry.straps = s.straps ∧ s.clearingEntry.por = s.por ∧ s.clearingEntry.sysclr = s.sysclr ∧
    s.clearingEntry.standing = s.standing ∧ s.clearingEntry.glass = s.glass ∧ s.clearingEntry.control = s.control ∧
    s.clearingEntry.report = s.report ∧ s.clearingEntry.capture.overflows = s.capture.overflows ∧
    s.clearingEntry.address.running = s.address.running ∧ s.clearingEntry.address.currentA = s.address.currentA ∧
    s.clearingEntry.address.currentB = s.address.currentB ∧ s.clearingEntry.address.cycleA = s.address.cycleA ∧
    s.clearingEntry.address.cycleB = s.address.cycleB ∧ s.clearingEntry.address.phase = s.address.phase ∧
    s.clearingEntry.address.tick = s.address.tick ∧ s.clearingEntry.address.pulse = s.address.pulse ∧
    s.clearingEntry.address.cellsAddressed = s.address.cellsAddressed ∧
    s.clearingEntry.address.droppedOrders = s.address.droppedOrders ∧
    s.clearingEntry.seq.recoveryCount = s.seq.recoveryCount ∧ s.clearingEntry.seq.faults = s.seq.faults ∧
    s.clearingEntry.seq.strikeX = s.seq.strikeX ∧ s.clearingEntry.seq.strikeY = s.seq.strikeY ∧
    s.clearingEntry.seq.outX = s.seq.outX ∧ s.clearingEntry.seq.outY = s.seq.outY ∧
    s.clearingEntry.seq.restTimer = s.seq.restTimer ∧ s.clearingEntry.seq.hven = s.seq.hven ∧
    s.clearingEntry.seq.hvok = s.seq.hvok ∧ s.clearingEntry.seq.hvoc = s.seq.hvoc ∧
    s.clearingEntry.seq.gfx = s.seq.gfx ∧ s.clearingEntry.seq.gfy = s.seq.gfy ∧
    s.clearingEntry.seq.debounceHvok = s.seq.debounceHvok ∧ s.clearingEntry.seq.debounceHvoc = s.seq.debounceHvoc ∧
    s.clearingEntry.seq.debounceX = s.seq.debounceX ∧ s.clearingEntry.seq.debounceY = s.seq.debounceY ∧
    s.clearingEntry.port.refreshWaiting = s.port.refreshWaiting ∧
    s.clearingEntry.port.reportWaiting = s.port.reportWaiting ∧
    s.clearingEntry.port.pendingRefresh = s.port.pendingRefresh ∧
    s.clearingEntry.port.refreshTimer = s.port.refreshTimer ∧
    s.clearingEntry.port.refreshRow = s.port.refreshRow ∧
    s.clearingEntry.port.deciding = s.port.deciding ∧ s.clearingEntry.port.ties = s.port.ties := by
  repeat' first | exact rfl | constructor

@[simp] theorem State.enterClearing_keeps (s : State) :
    s.enterClearing.pending = s.pending ∧ s.enterClearing.dram = s.dram ∧ s.enterClearing.dramEpoch = s.dramEpoch ∧
    s.enterClearing.straps = s.straps ∧ s.enterClearing.por = s.por ∧ s.enterClearing.sysclr = s.sysclr ∧
    s.enterClearing.standing = s.standing ∧ s.enterClearing.glass = s.glass ∧ s.enterClearing.control = s.control ∧
    s.enterClearing.capture.overflows = s.capture.overflows ∧ s.enterClearing.address.cycleA = s.address.cycleA ∧
    s.enterClearing.address.cycleB = s.address.cycleB ∧ s.enterClearing.address.pulse = s.address.pulse ∧
    s.enterClearing.address.cellsAddressed = s.address.cellsAddressed ∧
    s.enterClearing.address.droppedOrders = s.address.droppedOrders ∧
    s.enterClearing.seq.recoveryCount = s.seq.recoveryCount ∧ s.enterClearing.seq.faults = s.seq.faults ∧
    s.enterClearing.seq.strikeX = s.seq.strikeX ∧ s.enterClearing.seq.strikeY = s.seq.strikeY ∧
    s.enterClearing.seq.outX = s.seq.outX ∧ s.enterClearing.seq.outY = s.seq.outY ∧
    s.enterClearing.seq.restTimer = s.seq.restTimer ∧ s.enterClearing.seq.hven = s.seq.hven ∧
    s.enterClearing.seq.hvok = s.seq.hvok ∧ s.enterClearing.seq.hvoc = s.seq.hvoc ∧
    s.enterClearing.seq.gfx = s.seq.gfx ∧ s.enterClearing.seq.gfy = s.seq.gfy ∧
    s.enterClearing.seq.debounceHvoc = s.seq.debounceHvoc ∧
    s.enterClearing.port.refreshWaiting = s.port.refreshWaiting ∧
    s.enterClearing.port.pendingRefresh = s.port.pendingRefresh ∧
    s.enterClearing.port.refreshTimer = s.port.refreshTimer ∧ s.enterClearing.port.refreshRow = s.port.refreshRow ∧
    s.enterClearing.port.deciding = s.port.deciding ∧ s.enterClearing.port.ties = s.port.ties ∧
    s.enterClearing.report.causes = s.report.causes ∧ s.enterClearing.report.quietArmed = s.report.quietArmed ∧
    s.enterClearing.report.writeCount = s.report.writeCount ∧ s.enterClearing.report.atn = s.report.atn := by
  repeat' first | exact rfl | constructor

@[simp] theorem State.softRestart_keeps (s : State) :
    s.softRestart.pending = s.pending ∧ s.softRestart.dram = s.dram ∧ s.softRestart.dramEpoch = s.dramEpoch ∧
    s.softRestart.straps = s.straps ∧ s.softRestart.por = s.por ∧ s.softRestart.sysclr = s.sysclr ∧
    s.softRestart.standing = s.standing ∧ s.softRestart.glass = s.glass ∧ s.softRestart.control = s.control ∧
    s.softRestart.capture.overflows = s.capture.overflows ∧ s.softRestart.address.running = s.address.running ∧
    s.softRestart.address.cycleA = s.address.cycleA ∧ s.softRestart.address.cycleB = s.address.cycleB ∧
    s.softRestart.address.phase = s.address.phase ∧ s.softRestart.address.tick = s.address.tick ∧
    s.softRestart.address.pulse = s.address.pulse ∧
    s.softRestart.address.cellsAddressed = s.address.cellsAddressed ∧
    s.softRestart.address.droppedOrders = s.address.droppedOrders ∧
    s.softRestart.seq.recoveryCount = s.seq.recoveryCount ∧ s.softRestart.seq.faults = s.seq.faults ∧
    s.softRestart.seq.strikeX = s.seq.strikeX ∧ s.softRestart.seq.strikeY = s.seq.strikeY ∧
    s.softRestart.seq.outX = s.seq.outX ∧ s.softRestart.seq.outY = s.seq.outY ∧
    s.softRestart.seq.restTimer = s.seq.restTimer ∧ s.softRestart.seq.hven = s.seq.hven ∧
    s.softRestart.seq.hvok = s.seq.hvok ∧ s.softRestart.seq.hvoc = s.seq.hvoc ∧ s.softRestart.seq.gfx = s.seq.gfx ∧
    s.softRestart.seq.gfy = s.seq.gfy ∧ s.softRestart.seq.debounceHvok = s.seq.debounceHvok ∧
    s.softRestart.seq.debounceHvoc = s.seq.debounceHvoc ∧ s.softRestart.seq.debounceX = s.seq.debounceX ∧
    s.softRestart.seq.debounceY = s.seq.debounceY ∧ s.softRestart.port.refreshWaiting = s.port.refreshWaiting ∧
    s.softRestart.port.pendingRefresh = s.port.pendingRefresh ∧
    s.softRestart.port.refreshTimer = s.port.refreshTimer ∧ s.softRestart.port.refreshRow = s.port.refreshRow ∧
    s.softRestart.port.deciding = s.port.deciding ∧ s.softRestart.port.ties = s.port.ties ∧
    s.softRestart.report.causes = s.report.causes ∧ s.softRestart.report.quietArmed = s.report.quietArmed ∧
    s.softRestart.report.writeCount = s.report.writeCount ∧ s.softRestart.report.atn = s.report.atn := by
  repeat' first | exact rfl | constructor

@[simp] theorem State.enterLit_keeps (s : State) :
    s.enterLit.pending = s.pending ∧ s.enterLit.dram = s.dram ∧ s.enterLit.dramEpoch = s.dramEpoch ∧
    s.enterLit.straps = s.straps ∧ s.enterLit.por = s.por ∧ s.enterLit.sysclr = s.sysclr ∧
    s.enterLit.standing = s.standing ∧ s.enterLit.passage = s.passage ∧ s.enterLit.capture = s.capture ∧
    s.enterLit.render = s.render ∧ s.enterLit.queue = s.queue ∧ s.enterLit.stale = s.stale ∧
    s.enterLit.address = s.address ∧ s.enterLit.glass = s.glass ∧ s.enterLit.copy = s.copy ∧
    s.enterLit.control = s.control ∧ s.enterLit.seq.recoveryCount = s.seq.recoveryCount ∧
    s.enterLit.seq.faults = s.seq.faults ∧ s.enterLit.seq.strikeX = s.seq.strikeX ∧
    s.enterLit.seq.strikeY = s.seq.strikeY ∧ s.enterLit.seq.outX = s.seq.outX ∧ s.enterLit.seq.outY = s.seq.outY ∧
    s.enterLit.seq.erasesDone = s.seq.erasesDone ∧ s.enterLit.seq.wipeDone = s.seq.wipeDone ∧
    s.enterLit.seq.chargeTimer = s.seq.chargeTimer ∧ s.enterLit.seq.restTimer = s.seq.restTimer ∧
    s.enterLit.seq.hven = s.seq.hven ∧ s.enterLit.seq.hvok = s.seq.hvok ∧ s.enterLit.seq.hvoc = s.seq.hvoc ∧
    s.enterLit.seq.gfx = s.seq.gfx ∧ s.enterLit.seq.gfy = s.seq.gfy ∧
    s.enterLit.seq.debounceHvok = s.seq.debounceHvok ∧ s.enterLit.seq.debounceHvoc = s.seq.debounceHvoc ∧
    s.enterLit.seq.debounceX = s.seq.debounceX ∧ s.enterLit.seq.debounceY = s.seq.debounceY ∧
    s.enterLit.port.current = s.port.current ∧ s.enterLit.port.refreshWaiting = s.port.refreshWaiting ∧
    s.enterLit.port.passWaiting = s.port.passWaiting ∧ s.enterLit.port.renderWaiting = s.port.renderWaiting ∧
    s.enterLit.port.copyWaiting = s.port.copyWaiting ∧ s.enterLit.port.pendingRefresh = s.port.pendingRefresh ∧
    s.enterLit.port.refreshTimer = s.port.refreshTimer ∧ s.enterLit.port.refreshRow = s.port.refreshRow ∧
    s.enterLit.port.deciding = s.port.deciding ∧ s.enterLit.port.ties = s.port.ties ∧
    s.enterLit.report.writeCount = s.report.writeCount := by
  repeat' first | exact rfl | constructor

@[simp] theorem State.noteErases_keeps (s : State) :
    s.noteErases.pending = s.pending ∧ s.noteErases.dram = s.dram ∧ s.noteErases.dramEpoch = s.dramEpoch ∧
    s.noteErases.straps = s.straps ∧ s.noteErases.por = s.por ∧ s.noteErases.sysclr = s.sysclr ∧
    s.noteErases.standing = s.standing ∧ s.noteErases.passage = s.passage ∧ s.noteErases.capture = s.capture ∧
    s.noteErases.render = s.render ∧ s.noteErases.queue = s.queue ∧ s.noteErases.stale = s.stale ∧
    s.noteErases.address = s.address ∧ s.noteErases.glass = s.glass ∧ s.noteErases.copy = s.copy ∧
    s.noteErases.control = s.control ∧ s.noteErases.seq.recoveryCount = s.seq.recoveryCount ∧
    s.noteErases.seq.faults = s.seq.faults ∧ s.noteErases.seq.strikeX = s.seq.strikeX ∧
    s.noteErases.seq.strikeY = s.seq.strikeY ∧ s.noteErases.seq.outX = s.seq.outX ∧
    s.noteErases.seq.outY = s.seq.outY ∧ s.noteErases.seq.wipeDone = s.seq.wipeDone ∧
    s.noteErases.seq.chargeTimer = s.seq.chargeTimer ∧ s.noteErases.seq.restTimer = s.seq.restTimer ∧
    s.noteErases.seq.hven = s.seq.hven ∧ s.noteErases.seq.hvok = s.seq.hvok ∧ s.noteErases.seq.hvoc = s.seq.hvoc ∧
    s.noteErases.seq.gfx = s.seq.gfx ∧ s.noteErases.seq.gfy = s.seq.gfy ∧
    s.noteErases.seq.debounceHvok = s.seq.debounceHvok ∧ s.noteErases.seq.debounceHvoc = s.seq.debounceHvoc ∧
    s.noteErases.seq.debounceX = s.seq.debounceX ∧ s.noteErases.seq.debounceY = s.seq.debounceY ∧
    s.noteErases.port.current = s.port.current ∧ s.noteErases.port.refreshWaiting = s.port.refreshWaiting ∧
    s.noteErases.port.passWaiting = s.port.passWaiting ∧ s.noteErases.port.renderWaiting = s.port.renderWaiting ∧
    s.noteErases.port.copyWaiting = s.port.copyWaiting ∧ s.noteErases.port.pendingRefresh = s.port.pendingRefresh ∧
    s.noteErases.port.refreshTimer = s.port.refreshTimer ∧ s.noteErases.port.refreshRow = s.port.refreshRow ∧
    s.noteErases.port.deciding = s.port.deciding ∧ s.noteErases.port.ties = s.port.ties ∧
    s.noteErases.report.writeCount = s.report.writeCount := by
  (repeat' apply And.intro) <;> (unfold State.noteErases; try dsimp only) <;> (repeat' split) <;> rfl

@[simp] theorem State.noteWipe_keeps (s : State) :
    s.noteWipe.pending = s.pending ∧ s.noteWipe.dram = s.dram ∧ s.noteWipe.dramEpoch = s.dramEpoch ∧
    s.noteWipe.straps = s.straps ∧ s.noteWipe.por = s.por ∧ s.noteWipe.sysclr = s.sysclr ∧
    s.noteWipe.standing = s.standing ∧ s.noteWipe.passage = s.passage ∧ s.noteWipe.capture = s.capture ∧
    s.noteWipe.render = s.render ∧ s.noteWipe.queue = s.queue ∧ s.noteWipe.stale = s.stale ∧
    s.noteWipe.address = s.address ∧ s.noteWipe.glass = s.glass ∧ s.noteWipe.copy = s.copy ∧
    s.noteWipe.control = s.control ∧ s.noteWipe.seq.recoveryCount = s.seq.recoveryCount ∧
    s.noteWipe.seq.faults = s.seq.faults ∧ s.noteWipe.seq.strikeX = s.seq.strikeX ∧
    s.noteWipe.seq.strikeY = s.seq.strikeY ∧ s.noteWipe.seq.outX = s.seq.outX ∧ s.noteWipe.seq.outY = s.seq.outY ∧
    s.noteWipe.seq.erasesDone = s.seq.erasesDone ∧ s.noteWipe.seq.chargeTimer = s.seq.chargeTimer ∧
    s.noteWipe.seq.restTimer = s.seq.restTimer ∧ s.noteWipe.seq.hven = s.seq.hven ∧
    s.noteWipe.seq.hvok = s.seq.hvok ∧ s.noteWipe.seq.hvoc = s.seq.hvoc ∧ s.noteWipe.seq.gfx = s.seq.gfx ∧
    s.noteWipe.seq.gfy = s.seq.gfy ∧ s.noteWipe.seq.debounceHvok = s.seq.debounceHvok ∧
    s.noteWipe.seq.debounceHvoc = s.seq.debounceHvoc ∧ s.noteWipe.seq.debounceX = s.seq.debounceX ∧
    s.noteWipe.seq.debounceY = s.seq.debounceY ∧ s.noteWipe.port.current = s.port.current ∧
    s.noteWipe.port.refreshWaiting = s.port.refreshWaiting ∧ s.noteWipe.port.passWaiting = s.port.passWaiting ∧
    s.noteWipe.port.renderWaiting = s.port.renderWaiting ∧ s.noteWipe.port.copyWaiting = s.port.copyWaiting ∧
    s.noteWipe.port.pendingRefresh = s.port.pendingRefresh ∧ s.noteWipe.port.refreshTimer = s.port.refreshTimer ∧
    s.noteWipe.port.refreshRow = s.port.refreshRow ∧
    s.noteWipe.port.deciding = s.port.deciding ∧ s.noteWipe.port.ties = s.port.ties ∧
    s.noteWipe.report.writeCount = s.report.writeCount := by
  (repeat' apply And.intro) <;> (unfold State.noteWipe; try dsimp only) <;> (repeat' split) <;> rfl

@[simp] theorem State.powerDown_keeps (s : State) :
    s.powerDown.pending = s.pending ∧ s.powerDown.dram = s.dram ∧ s.powerDown.dramEpoch = s.dramEpoch ∧
    s.powerDown.straps = s.straps ∧ s.powerDown.por = s.por ∧ s.powerDown.sysclr = s.sysclr ∧
    s.powerDown.standing = s.standing ∧ s.powerDown.control = s.control ∧ s.powerDown.report = s.report ∧
    s.powerDown.capture.overflows = s.capture.overflows ∧ s.powerDown.render.wipePosition = s.render.wipePosition ∧
    s.powerDown.stale.posLine = s.stale.posLine ∧ s.powerDown.stale.posWord = s.stale.posWord ∧
    s.powerDown.address.currentA = s.address.currentA ∧ s.powerDown.address.currentB = s.address.currentB ∧
    s.powerDown.address.cycleA = s.address.cycleA ∧ s.powerDown.address.cycleB = s.address.cycleB ∧
    s.powerDown.address.globalErases = s.address.globalErases ∧
    s.powerDown.address.cellsAddressed = s.address.cellsAddressed ∧
    s.powerDown.address.droppedOrders = s.address.droppedOrders ∧ s.powerDown.seq.panel = s.seq.panel ∧
    s.powerDown.seq.recoveryCount = s.seq.recoveryCount ∧ s.powerDown.seq.faults = s.seq.faults ∧
    s.powerDown.seq.strikeX = s.seq.strikeX ∧ s.powerDown.seq.strikeY = s.seq.strikeY ∧
    s.powerDown.seq.outX = s.seq.outX ∧ s.powerDown.seq.outY = s.seq.outY ∧
    s.powerDown.seq.erasesDone = s.seq.erasesDone ∧ s.powerDown.seq.wipeDone = s.seq.wipeDone ∧
    s.powerDown.seq.restTimer = s.seq.restTimer ∧ s.powerDown.seq.hvok = s.seq.hvok ∧
    s.powerDown.seq.hvoc = s.seq.hvoc ∧ s.powerDown.seq.gfx = s.seq.gfx ∧ s.powerDown.seq.gfy = s.seq.gfy ∧
    s.powerDown.port.refreshWaiting = s.port.refreshWaiting ∧
    s.powerDown.port.reportWaiting = s.port.reportWaiting ∧
    s.powerDown.port.pendingRefresh = s.port.pendingRefresh ∧ s.powerDown.port.refreshTimer = s.port.refreshTimer ∧
    s.powerDown.port.refreshRow = s.port.refreshRow ∧
    s.powerDown.port.deciding = s.port.deciding ∧ s.powerDown.port.ties = s.port.ties := by
  repeat' first | exact rfl | constructor

@[simp] theorem State.recover_keeps (s : State) :
    s.recover.pending = s.pending ∧ s.recover.dram = s.dram ∧ s.recover.dramEpoch = s.dramEpoch ∧
    s.recover.straps = s.straps ∧ s.recover.por = s.por ∧ s.recover.sysclr = s.sysclr ∧
    s.recover.standing = s.standing ∧ s.recover.control = s.control ∧
    s.recover.capture.overflows = s.capture.overflows ∧ s.recover.render.wipePosition = s.render.wipePosition ∧
    s.recover.stale.posLine = s.stale.posLine ∧ s.recover.stale.posWord = s.stale.posWord ∧
    s.recover.address.currentA = s.address.currentA ∧ s.recover.address.currentB = s.address.currentB ∧
    s.recover.address.cycleA = s.address.cycleA ∧ s.recover.address.cycleB = s.address.cycleB ∧
    s.recover.address.globalErases = s.address.globalErases ∧
    s.recover.address.cellsAddressed = s.address.cellsAddressed ∧
    s.recover.address.droppedOrders = s.address.droppedOrders ∧ s.recover.seq.strikeX = s.seq.strikeX ∧
    s.recover.seq.strikeY = s.seq.strikeY ∧ s.recover.seq.outX = s.seq.outX ∧ s.recover.seq.outY = s.seq.outY ∧
    s.recover.seq.erasesDone = s.seq.erasesDone ∧ s.recover.seq.wipeDone = s.seq.wipeDone ∧
    s.recover.seq.hvok = s.seq.hvok ∧ s.recover.seq.hvoc = s.seq.hvoc ∧ s.recover.seq.gfx = s.seq.gfx ∧
    s.recover.seq.gfy = s.seq.gfy ∧ s.recover.port.refreshWaiting = s.port.refreshWaiting ∧
    s.recover.port.pendingRefresh = s.port.pendingRefresh ∧ s.recover.port.refreshTimer = s.port.refreshTimer ∧
    s.recover.port.refreshRow = s.port.refreshRow ∧
    s.recover.port.deciding = s.port.deciding ∧ s.recover.port.ties = s.port.ties ∧
    s.recover.report.quietArmed = s.report.quietArmed ∧
    s.recover.report.writeCount = s.report.writeCount := by
  unfold State.recover; dsimp only; split <;> simp

@[simp] theorem State.barNoGroups_keeps (s : State) :
    s.barNoGroups.pending = s.pending ∧ s.barNoGroups.dram = s.dram ∧ s.barNoGroups.dramEpoch = s.dramEpoch ∧
    s.barNoGroups.straps = s.straps ∧ s.barNoGroups.por = s.por ∧ s.barNoGroups.sysclr = s.sysclr ∧
    s.barNoGroups.standing = s.standing ∧ s.barNoGroups.address = s.address ∧ s.barNoGroups.glass = s.glass ∧
    s.barNoGroups.control = s.control ∧ s.barNoGroups.capture.overflows = s.capture.overflows ∧
    s.barNoGroups.render.wipePosition = s.render.wipePosition ∧ s.barNoGroups.stale.posLine = s.stale.posLine ∧
    s.barNoGroups.stale.posWord = s.stale.posWord ∧ s.barNoGroups.seq.recoveryCount = s.seq.recoveryCount ∧
    s.barNoGroups.seq.strikeX = s.seq.strikeX ∧ s.barNoGroups.seq.strikeY = s.seq.strikeY ∧
    s.barNoGroups.seq.outX = s.seq.outX ∧ s.barNoGroups.seq.outY = s.seq.outY ∧
    s.barNoGroups.seq.erasesDone = s.seq.erasesDone ∧ s.barNoGroups.seq.wipeDone = s.seq.wipeDone ∧
    s.barNoGroups.seq.chargeTimer = s.seq.chargeTimer ∧ s.barNoGroups.seq.litTimer = s.seq.litTimer ∧
    s.barNoGroups.seq.hven = s.seq.hven ∧ s.barNoGroups.seq.hvok = s.seq.hvok ∧
    s.barNoGroups.seq.hvoc = s.seq.hvoc ∧ s.barNoGroups.seq.gfx = s.seq.gfx ∧ s.barNoGroups.seq.gfy = s.seq.gfy ∧
    s.barNoGroups.seq.debounceHvok = s.seq.debounceHvok ∧ s.barNoGroups.seq.debounceHvoc = s.seq.debounceHvoc ∧
    s.barNoGroups.seq.debounceX = s.seq.debounceX ∧ s.barNoGroups.seq.debounceY = s.seq.debounceY ∧
    s.barNoGroups.port.refreshWaiting = s.port.refreshWaiting ∧
    s.barNoGroups.port.pendingRefresh = s.port.pendingRefresh ∧
    s.barNoGroups.port.refreshTimer = s.port.refreshTimer ∧ s.barNoGroups.port.refreshRow = s.port.refreshRow ∧
    s.barNoGroups.port.deciding = s.port.deciding ∧ s.barNoGroups.port.ties = s.port.ties ∧
    s.barNoGroups.report.quietArmed = s.report.quietArmed ∧
    s.barNoGroups.report.writeCount = s.report.writeCount := by
  repeat' first | exact rfl | constructor

@[simp] theorem State.enterDark_keeps (s : State) :
    s.enterDark.pending = s.pending ∧ s.enterDark.dram = s.dram ∧ s.enterDark.dramEpoch = s.dramEpoch ∧
    s.enterDark.straps = s.straps ∧ s.enterDark.por = s.por ∧ s.enterDark.sysclr = s.sysclr ∧
    s.enterDark.standing = s.standing ∧ s.enterDark.control = s.control ∧
    s.enterDark.capture.overflows = s.capture.overflows ∧ s.enterDark.render.wipePosition = s.render.wipePosition ∧
    s.enterDark.address.currentA = s.address.currentA ∧ s.enterDark.address.currentB = s.address.currentB ∧
    s.enterDark.address.cycleA = s.address.cycleA ∧ s.enterDark.address.cycleB = s.address.cycleB ∧
    s.enterDark.address.globalErases = s.address.globalErases ∧
    s.enterDark.address.cellsAddressed = s.address.cellsAddressed ∧
    s.enterDark.address.droppedOrders = s.address.droppedOrders ∧ s.enterDark.seq.faults = s.seq.faults ∧
    s.enterDark.seq.strikeX = s.seq.strikeX ∧ s.enterDark.seq.strikeY = s.seq.strikeY ∧
    s.enterDark.seq.outX = s.seq.outX ∧ s.enterDark.seq.outY = s.seq.outY ∧ s.enterDark.seq.hvok = s.seq.hvok ∧
    s.enterDark.seq.hvoc = s.seq.hvoc ∧ s.enterDark.seq.gfx = s.seq.gfx ∧ s.enterDark.seq.gfy = s.seq.gfy ∧
    s.enterDark.port.refreshWaiting = s.port.refreshWaiting ∧
    s.enterDark.port.pendingRefresh = s.port.pendingRefresh ∧ s.enterDark.port.refreshTimer = s.port.refreshTimer ∧
    s.enterDark.port.refreshRow = s.port.refreshRow ∧
    s.enterDark.port.deciding = s.port.deciding ∧ s.enterDark.port.ties = s.port.ties ∧
    s.enterDark.report.causes = s.report.causes ∧
    s.enterDark.report.quietArmed = s.report.quietArmed ∧ s.enterDark.report.writeCount = s.report.writeCount ∧
    s.enterDark.report.atn = s.report.atn := by
  repeat' first | exact rfl | constructor

@[simp] theorem State.handOver_keeps (s : State) (a : Addr) (l : Lanes) (w : Word) :
    (s.handOver a l w).pending = s.pending ∧ (s.handOver a l w).dram = s.dram ∧
    (s.handOver a l w).dramEpoch = s.dramEpoch ∧ (s.handOver a l w).straps = s.straps ∧
    (s.handOver a l w).por = s.por ∧ (s.handOver a l w).sysclr = s.sysclr ∧
    (s.handOver a l w).standing = s.standing ∧ (s.handOver a l w).passage = s.passage ∧
    (s.handOver a l w).capture = s.capture ∧ (s.handOver a l w).render = s.render ∧
    (s.handOver a l w).queue = s.queue ∧ (s.handOver a l w).stale = s.stale ∧
    (s.handOver a l w).address = s.address ∧ (s.handOver a l w).glass = s.glass ∧ (s.handOver a l w).seq = s.seq ∧
    (s.handOver a l w).port = s.port ∧ (s.handOver a l w).copy = s.copy ∧ (s.handOver a l w).report = s.report ∧
    (s.handOver a l w).control.params = s.control.params ∧ (s.handOver a l w).control.tables = s.control.tables ∧
    (s.handOver a l w).control.copyWords = s.control.copyWords ∧
    (s.handOver a l w).control.argument = s.control.argument ∧
    (s.handOver a l w).control.checked = s.control.checked ∧
    (s.handOver a l w).control.clampSet = s.control.clampSet ∧
    (s.handOver a l w).control.lastCode = s.control.lastCode ∧
    (s.handOver a l w).control.lastOutcome = s.control.lastOutcome := by
  repeat' first | exact rfl | constructor

@[simp] theorem State.takeRead_keeps (s : State) (a : Addr) :
    (s.takeRead a).pending = s.pending ∧ (s.takeRead a).dram = s.dram ∧ (s.takeRead a).dramEpoch = s.dramEpoch ∧
    (s.takeRead a).straps = s.straps ∧ (s.takeRead a).por = s.por ∧ (s.takeRead a).sysclr = s.sysclr ∧
    (s.takeRead a).standing = s.standing ∧ (s.takeRead a).capture = s.capture ∧ (s.takeRead a).render = s.render ∧
    (s.takeRead a).queue = s.queue ∧ (s.takeRead a).stale = s.stale ∧ (s.takeRead a).address = s.address ∧
    (s.takeRead a).glass = s.glass ∧ (s.takeRead a).seq = s.seq ∧ (s.takeRead a).copy = s.copy ∧
    (s.takeRead a).control = s.control ∧ (s.takeRead a).report = s.report ∧
    (s.takeRead a).passage.stallTimer = s.passage.stallTimer ∧
    (s.takeRead a).passage.guardedWrites = s.passage.guardedWrites ∧
    (s.takeRead a).passage.busData = s.passage.busData ∧ (s.takeRead a).port.current = s.port.current ∧
    (s.takeRead a).port.refreshWaiting = s.port.refreshWaiting ∧
    (s.takeRead a).port.reportWaiting = s.port.reportWaiting ∧
    (s.takeRead a).port.renderWaiting = s.port.renderWaiting ∧
    (s.takeRead a).port.copyWaiting = s.port.copyWaiting ∧
    (s.takeRead a).port.pendingRefresh = s.port.pendingRefresh ∧
    (s.takeRead a).port.refreshTimer = s.port.refreshTimer ∧ (s.takeRead a).port.refreshRow = s.port.refreshRow ∧
    (s.takeRead a).port.deciding = s.port.deciding ∧ (s.takeRead a).port.ties = s.port.ties := by
  repeat' first | exact rfl | constructor

@[simp] theorem State.holdWrite_keeps (s : State) (a : Addr) (l : Option Lanes) (w : Word) (d : GuardDecision) (m : Timer) :
    (s.holdWrite a l w d m).pending = s.pending ∧ (s.holdWrite a l w d m).dram = s.dram ∧
    (s.holdWrite a l w d m).dramEpoch = s.dramEpoch ∧ (s.holdWrite a l w d m).straps = s.straps ∧
    (s.holdWrite a l w d m).por = s.por ∧ (s.holdWrite a l w d m).sysclr = s.sysclr ∧
    (s.holdWrite a l w d m).standing = s.standing ∧ (s.holdWrite a l w d m).capture = s.capture ∧
    (s.holdWrite a l w d m).render = s.render ∧ (s.holdWrite a l w d m).queue = s.queue ∧
    (s.holdWrite a l w d m).stale = s.stale ∧ (s.holdWrite a l w d m).address = s.address ∧
    (s.holdWrite a l w d m).glass = s.glass ∧ (s.holdWrite a l w d m).seq = s.seq ∧
    (s.holdWrite a l w d m).port = s.port ∧ (s.holdWrite a l w d m).copy = s.copy ∧
    (s.holdWrite a l w d m).control = s.control ∧ (s.holdWrite a l w d m).report = s.report ∧
    (s.holdWrite a l w d m).passage.guardedWrites = s.passage.guardedWrites ∧
    (s.holdWrite a l w d m).passage.busData = s.passage.busData := by
  repeat' first | exact rfl | constructor

@[simp] theorem State.present_keeps (s : State) (c : PresentedCycle) :
    (s.present c).pending = s.pending ∧ (s.present c).dram = s.dram ∧ (s.present c).dramEpoch = s.dramEpoch ∧
    (s.present c).straps = s.straps ∧ (s.present c).por = s.por ∧ (s.present c).sysclr = s.sysclr ∧
    (s.present c).standing = s.standing ∧ (s.present c).capture = s.capture ∧ (s.present c).render = s.render ∧
    (s.present c).queue = s.queue ∧ (s.present c).stale = s.stale ∧ (s.present c).address = s.address ∧
    (s.present c).glass = s.glass ∧ (s.present c).seq = s.seq ∧ (s.present c).port = s.port ∧
    (s.present c).copy = s.copy ∧ (s.present c).control = s.control ∧ (s.present c).report = s.report ∧
    (s.present c).passage.inHand = s.passage.inHand ∧ (s.present c).passage.stallTimer = s.passage.stallTimer ∧
    (s.present c).passage.guardedWrites = s.passage.guardedWrites ∧
    (s.present c).passage.busData = s.passage.busData := by
  repeat' first | exact rfl | constructor

@[simp] theorem State.endCycle_keeps (s : State) :
    s.endCycle.pending = s.pending ∧ s.endCycle.dram = s.dram ∧ s.endCycle.dramEpoch = s.dramEpoch ∧
    s.endCycle.straps = s.straps ∧ s.endCycle.por = s.por ∧ s.endCycle.sysclr = s.sysclr ∧
    s.endCycle.standing = s.standing ∧ s.endCycle.capture = s.capture ∧ s.endCycle.render = s.render ∧
    s.endCycle.queue = s.queue ∧ s.endCycle.stale = s.stale ∧ s.endCycle.address = s.address ∧
    s.endCycle.glass = s.glass ∧ s.endCycle.seq = s.seq ∧ s.endCycle.port = s.port ∧ s.endCycle.copy = s.copy ∧
    s.endCycle.control = s.control ∧ s.endCycle.report = s.report ∧
    s.endCycle.passage.presented = s.passage.presented ∧
    s.endCycle.passage.guardedWrites = s.passage.guardedWrites ∧ s.endCycle.passage.busData = s.passage.busData := by
  repeat' first | exact rfl | constructor

@[simp] theorem State.withItem_keeps (s : State) (i : Option RenderItem) :
    (s.withItem i).pending = s.pending ∧ (s.withItem i).dram = s.dram ∧ (s.withItem i).dramEpoch = s.dramEpoch ∧
    (s.withItem i).straps = s.straps ∧ (s.withItem i).por = s.por ∧ (s.withItem i).sysclr = s.sysclr ∧
    (s.withItem i).standing = s.standing ∧ (s.withItem i).passage = s.passage ∧
    (s.withItem i).capture = s.capture ∧ (s.withItem i).queue = s.queue ∧ (s.withItem i).stale = s.stale ∧
    (s.withItem i).address = s.address ∧ (s.withItem i).glass = s.glass ∧ (s.withItem i).seq = s.seq ∧
    (s.withItem i).port = s.port ∧ (s.withItem i).copy = s.copy ∧ (s.withItem i).control = s.control ∧
    (s.withItem i).report = s.report ∧ (s.withItem i).render.captureCount = s.render.captureCount ∧
    (s.withItem i).render.wipePosition = s.render.wipePosition := by
  repeat' first | exact rfl | constructor

@[simp] theorem State.openCycle_keeps (s : State) :
    s.openCycle.pending = s.pending ∧ s.openCycle.dram = s.dram ∧ s.openCycle.dramEpoch = s.dramEpoch ∧
    s.openCycle.straps = s.straps ∧ s.openCycle.por = s.por ∧ s.openCycle.sysclr = s.sysclr ∧
    s.openCycle.standing = s.standing ∧ s.openCycle.passage = s.passage ∧ s.openCycle.capture = s.capture ∧
    s.openCycle.render = s.render ∧ s.openCycle.queue = s.queue ∧ s.openCycle.stale = s.stale ∧
    s.openCycle.glass = s.glass ∧ s.openCycle.seq = s.seq ∧ s.openCycle.port = s.port ∧ s.openCycle.copy = s.copy ∧
    s.openCycle.control = s.control ∧ s.openCycle.report = s.report ∧
    s.openCycle.address.running = s.address.running ∧ s.openCycle.address.currentA = s.address.currentA ∧
    s.openCycle.address.currentB = s.address.currentB ∧ s.openCycle.address.tick = s.address.tick ∧
    s.openCycle.address.pulse = s.address.pulse ∧ s.openCycle.address.globalErases = s.address.globalErases ∧
    s.openCycle.address.cellsAddressed = s.address.cellsAddressed ∧
    s.openCycle.address.droppedOrders = s.address.droppedOrders := by
  repeat' first | exact rfl | constructor

@[simp] theorem State.writeWord_keeps (s : State) (a : Addr) (l : Lanes) (w : Word) :
    (s.writeWord a l w).pending = s.pending ∧ (s.writeWord a l w).dramEpoch = s.dramEpoch ∧
    (s.writeWord a l w).straps = s.straps ∧ (s.writeWord a l w).por = s.por ∧
    (s.writeWord a l w).sysclr = s.sysclr ∧ (s.writeWord a l w).standing = s.standing ∧
    (s.writeWord a l w).passage = s.passage ∧ (s.writeWord a l w).capture = s.capture ∧
    (s.writeWord a l w).render = s.render ∧ (s.writeWord a l w).queue = s.queue ∧
    (s.writeWord a l w).stale = s.stale ∧ (s.writeWord a l w).address = s.address ∧
    (s.writeWord a l w).glass = s.glass ∧ (s.writeWord a l w).seq = s.seq ∧ (s.writeWord a l w).port = s.port ∧
    (s.writeWord a l w).copy = s.copy ∧ (s.writeWord a l w).control = s.control ∧
    (s.writeWord a l w).report = s.report := by
  repeat' first | exact rfl | constructor

@[simp] theorem State.takeHandOver_keeps (s : State) (h : HandOver) (r : List HandOver) :
    (s.takeHandOver h r).pending = s.pending ∧ (s.takeHandOver h r).dram = s.dram ∧
    (s.takeHandOver h r).dramEpoch = s.dramEpoch ∧ (s.takeHandOver h r).straps = s.straps ∧
    (s.takeHandOver h r).por = s.por ∧ (s.takeHandOver h r).sysclr = s.sysclr ∧
    (s.takeHandOver h r).standing = s.standing ∧ (s.takeHandOver h r).passage = s.passage ∧
    (s.takeHandOver h r).capture = s.capture ∧ (s.takeHandOver h r).render = s.render ∧
    (s.takeHandOver h r).queue = s.queue ∧ (s.takeHandOver h r).stale = s.stale ∧
    (s.takeHandOver h r).address = s.address ∧ (s.takeHandOver h r).glass = s.glass ∧
    (s.takeHandOver h r).seq = s.seq ∧ (s.takeHandOver h r).port = s.port ∧ (s.takeHandOver h r).copy = s.copy ∧
    (s.takeHandOver h r).report = s.report ∧ (s.takeHandOver h r).control.params = s.control.params ∧
    (s.takeHandOver h r).control.tables = s.control.tables ∧
    (s.takeHandOver h r).control.copyWords = s.control.copyWords ∧
    (s.takeHandOver h r).control.checked = s.control.checked ∧
    (s.takeHandOver h r).control.clampSet = s.control.clampSet ∧
    (s.takeHandOver h r).control.lastCode = s.control.lastCode ∧
    (s.takeHandOver h r).control.lastOutcome = s.control.lastOutcome := by
  repeat' first | exact rfl | constructor

@[simp] theorem State.askCopyWrite_keeps (s : State) (w : Word) (d : GuardDecision) :
    (s.askCopyWrite w d).pending = s.pending ∧ (s.askCopyWrite w d).dram = s.dram ∧
    (s.askCopyWrite w d).dramEpoch = s.dramEpoch ∧ (s.askCopyWrite w d).straps = s.straps ∧
    (s.askCopyWrite w d).por = s.por ∧ (s.askCopyWrite w d).sysclr = s.sysclr ∧
    (s.askCopyWrite w d).standing = s.standing ∧ (s.askCopyWrite w d).passage = s.passage ∧
    (s.askCopyWrite w d).capture = s.capture ∧ (s.askCopyWrite w d).render = s.render ∧
    (s.askCopyWrite w d).queue = s.queue ∧ (s.askCopyWrite w d).stale = s.stale ∧
    (s.askCopyWrite w d).address = s.address ∧ (s.askCopyWrite w d).glass = s.glass ∧
    (s.askCopyWrite w d).seq = s.seq ∧ (s.askCopyWrite w d).control = s.control ∧
    (s.askCopyWrite w d).report = s.report ∧ (s.askCopyWrite w d).port.current = s.port.current ∧
    (s.askCopyWrite w d).port.refreshWaiting = s.port.refreshWaiting ∧
    (s.askCopyWrite w d).port.passWaiting = s.port.passWaiting ∧
    (s.askCopyWrite w d).port.reportWaiting = s.port.reportWaiting ∧
    (s.askCopyWrite w d).port.renderWaiting = s.port.renderWaiting ∧
    (s.askCopyWrite w d).port.pendingRefresh = s.port.pendingRefresh ∧
    (s.askCopyWrite w d).port.refreshTimer = s.port.refreshTimer ∧
    (s.askCopyWrite w d).port.refreshRow = s.port.refreshRow ∧
    (s.askCopyWrite w d).port.deciding = s.port.deciding ∧ (s.askCopyWrite w d).port.ties = s.port.ties ∧
    (s.askCopyWrite w d).copy.request = s.copy.request ∧
    (s.askCopyWrite w d).copy.row = s.copy.row ∧ (s.askCopyWrite w d).copy.word = s.copy.word ∧
    (s.askCopyWrite w d).copy.rowsRemaining = s.copy.rowsRemaining ∧
    (s.askCopyWrite w d).copy.outcome = s.copy.outcome ∧
    (s.askCopyWrite w d).copy.cancelling = s.copy.cancelling := by
  repeat' first | exact rfl | constructor

@[simp] theorem State.recordCommand_keeps (s : State) (c : Byte) (o : CommandOutcome) :
    (s.recordCommand c o).pending = s.pending ∧ (s.recordCommand c o).dram = s.dram ∧
    (s.recordCommand c o).dramEpoch = s.dramEpoch ∧ (s.recordCommand c o).straps = s.straps ∧
    (s.recordCommand c o).por = s.por ∧ (s.recordCommand c o).sysclr = s.sysclr ∧
    (s.recordCommand c o).standing = s.standing ∧ (s.recordCommand c o).passage = s.passage ∧
    (s.recordCommand c o).capture = s.capture ∧ (s.recordCommand c o).render = s.render ∧
    (s.recordCommand c o).queue = s.queue ∧ (s.recordCommand c o).stale = s.stale ∧
    (s.recordCommand c o).address = s.address ∧ (s.recordCommand c o).glass = s.glass ∧
    (s.recordCommand c o).seq = s.seq ∧ (s.recordCommand c o).copy = s.copy ∧
    (s.recordCommand c o).port.current = s.port.current ∧
    (s.recordCommand c o).port.refreshWaiting = s.port.refreshWaiting ∧
    (s.recordCommand c o).port.passWaiting = s.port.passWaiting ∧
    (s.recordCommand c o).port.renderWaiting = s.port.renderWaiting ∧
    (s.recordCommand c o).port.copyWaiting = s.port.copyWaiting ∧
    (s.recordCommand c o).port.pendingRefresh = s.port.pendingRefresh ∧
    (s.recordCommand c o).port.refreshTimer = s.port.refreshTimer ∧
    (s.recordCommand c o).port.refreshRow = s.port.refreshRow ∧
    (s.recordCommand c o).port.deciding = s.port.deciding ∧ (s.recordCommand c o).port.ties = s.port.ties ∧
    (s.recordCommand c o).control.params = s.control.params ∧
    (s.recordCommand c o).control.tables = s.control.tables ∧
    (s.recordCommand c o).control.copyWords = s.control.copyWords ∧
    (s.recordCommand c o).control.argument = s.control.argument ∧
    (s.recordCommand c o).control.checked = s.control.checked ∧
    (s.recordCommand c o).control.clampSet = s.control.clampSet ∧
    (s.recordCommand c o).control.handOvers = s.control.handOvers ∧
    (s.recordCommand c o).report.quietArmed = s.report.quietArmed ∧
    (s.recordCommand c o).report.writeCount = s.report.writeCount := by
  (repeat' apply And.intro) <;> (unfold State.recordCommand; try dsimp only) <;> (repeat' split) <;> rfl

@[simp] theorem State.idleCount_keeps (s : State) :
    s.idleCount.pending = s.pending ∧ s.idleCount.dram = s.dram ∧ s.idleCount.dramEpoch = s.dramEpoch ∧
    s.idleCount.straps = s.straps ∧ s.idleCount.por = s.por ∧ s.idleCount.sysclr = s.sysclr ∧
    s.idleCount.standing = s.standing ∧ s.idleCount.passage = s.passage ∧ s.idleCount.capture = s.capture ∧
    s.idleCount.queue = s.queue ∧ s.idleCount.stale = s.stale ∧ s.idleCount.address = s.address ∧
    s.idleCount.glass = s.glass ∧ s.idleCount.seq = s.seq ∧ s.idleCount.port = s.port ∧ s.idleCount.copy = s.copy ∧
    s.idleCount.control = s.control ∧ s.idleCount.report = s.report ∧ s.idleCount.render.item = s.render.item ∧
    s.idleCount.render.wipePosition = s.render.wipePosition := by
  (repeat' apply And.intro) <;> (unfold State.idleCount; try dsimp only) <;> (repeat' split) <;> rfl

@[simp] theorem State.quietCheck_keeps (s : State) :
    s.quietCheck.pending = s.pending ∧ s.quietCheck.dram = s.dram ∧ s.quietCheck.dramEpoch = s.dramEpoch ∧
    s.quietCheck.straps = s.straps ∧ s.quietCheck.por = s.por ∧ s.quietCheck.sysclr = s.sysclr ∧
    s.quietCheck.standing = s.standing ∧ s.quietCheck.passage = s.passage ∧ s.quietCheck.capture = s.capture ∧
    s.quietCheck.render = s.render ∧ s.quietCheck.queue = s.queue ∧ s.quietCheck.stale = s.stale ∧
    s.quietCheck.address = s.address ∧ s.quietCheck.glass = s.glass ∧ s.quietCheck.seq = s.seq ∧
    s.quietCheck.copy = s.copy ∧ s.quietCheck.control = s.control ∧ s.quietCheck.port.current = s.port.current ∧
    s.quietCheck.port.refreshWaiting = s.port.refreshWaiting ∧ s.quietCheck.port.passWaiting = s.port.passWaiting ∧
    s.quietCheck.port.renderWaiting = s.port.renderWaiting ∧ s.quietCheck.port.copyWaiting = s.port.copyWaiting ∧
    s.quietCheck.port.pendingRefresh = s.port.pendingRefresh ∧
    s.quietCheck.port.refreshTimer = s.port.refreshTimer ∧ s.quietCheck.port.refreshRow = s.port.refreshRow ∧
    s.quietCheck.port.deciding = s.port.deciding ∧ s.quietCheck.port.ties = s.port.ties ∧
    s.quietCheck.report.writeCount = s.report.writeCount := by
  (repeat' apply And.intro) <;> (unfold State.quietCheck; try dsimp only) <;> (repeat' split) <;> rfl

@[simp] theorem State.afterEvent_keeps (s : State) :
    s.afterEvent.pending = s.pending ∧ s.afterEvent.dram = s.dram ∧ s.afterEvent.dramEpoch = s.dramEpoch ∧
    s.afterEvent.straps = s.straps ∧ s.afterEvent.por = s.por ∧ s.afterEvent.sysclr = s.sysclr ∧
    s.afterEvent.standing = s.standing ∧ s.afterEvent.passage = s.passage ∧ s.afterEvent.capture = s.capture ∧
    s.afterEvent.queue = s.queue ∧ s.afterEvent.stale = s.stale ∧ s.afterEvent.address = s.address ∧
    s.afterEvent.glass = s.glass ∧ s.afterEvent.seq = s.seq ∧ s.afterEvent.copy = s.copy ∧
    s.afterEvent.control = s.control ∧ s.afterEvent.render.item = s.render.item ∧
    s.afterEvent.render.wipePosition = s.render.wipePosition ∧ s.afterEvent.port.current = s.port.current ∧
    s.afterEvent.port.refreshWaiting = s.port.refreshWaiting ∧ s.afterEvent.port.passWaiting = s.port.passWaiting ∧
    s.afterEvent.port.renderWaiting = s.port.renderWaiting ∧ s.afterEvent.port.copyWaiting = s.port.copyWaiting ∧
    s.afterEvent.port.pendingRefresh = s.port.pendingRefresh ∧
    s.afterEvent.port.refreshTimer = s.port.refreshTimer ∧ s.afterEvent.port.refreshRow = s.port.refreshRow ∧
    s.afterEvent.port.deciding = s.port.deciding ∧ s.afterEvent.port.ties = s.port.ties ∧
    s.afterEvent.report.writeCount = s.report.writeCount := by
  (repeat' apply And.intro) <;>
    (simp only [State.afterEvent, State.idleCount, State.quietCheck]; (repeat' split) <;> rfl)

@[simp] theorem State.endCopy_keeps (s : State) (o : CopyOutcome) :
    (s.endCopy o).pending = s.pending ∧ (s.endCopy o).dram = s.dram ∧ (s.endCopy o).dramEpoch = s.dramEpoch ∧
    (s.endCopy o).straps = s.straps ∧ (s.endCopy o).por = s.por ∧ (s.endCopy o).sysclr = s.sysclr ∧
    (s.endCopy o).standing = s.standing ∧ (s.endCopy o).passage = s.passage ∧ (s.endCopy o).capture = s.capture ∧
    (s.endCopy o).render = s.render ∧ (s.endCopy o).queue = s.queue ∧ (s.endCopy o).stale = s.stale ∧
    (s.endCopy o).address = s.address ∧ (s.endCopy o).glass = s.glass ∧ (s.endCopy o).seq = s.seq ∧
    (s.endCopy o).control = s.control ∧ (s.endCopy o).port.current = s.port.current ∧
    (s.endCopy o).port.refreshWaiting = s.port.refreshWaiting ∧
    (s.endCopy o).port.passWaiting = s.port.passWaiting ∧ (s.endCopy o).port.renderWaiting = s.port.renderWaiting ∧
    (s.endCopy o).port.copyWaiting = s.port.copyWaiting ∧
    (s.endCopy o).port.pendingRefresh = s.port.pendingRefresh ∧
    (s.endCopy o).port.refreshTimer = s.port.refreshTimer ∧ (s.endCopy o).port.refreshRow = s.port.refreshRow ∧
    (s.endCopy o).port.deciding = s.port.deciding ∧ (s.endCopy o).port.ties = s.port.ties ∧
    (s.endCopy o).copy.request = s.copy.request ∧ (s.endCopy o).copy.row = s.copy.row ∧
    (s.endCopy o).copy.word = s.copy.word ∧ (s.endCopy o).copy.rowsRemaining = s.copy.rowsRemaining ∧
    (s.endCopy o).report.quietArmed = s.report.quietArmed ∧
    (s.endCopy o).report.writeCount = s.report.writeCount := by
  (repeat' apply And.intro) <;> (unfold State.endCopy; try dsimp only) <;> (repeat' split) <;> rfl

@[simp] theorem State.abortCopy_keeps (s : State) :
    s.abortCopy.pending = s.pending ∧ s.abortCopy.dram = s.dram ∧ s.abortCopy.dramEpoch = s.dramEpoch ∧
    s.abortCopy.straps = s.straps ∧ s.abortCopy.por = s.por ∧ s.abortCopy.sysclr = s.sysclr ∧
    s.abortCopy.standing = s.standing ∧ s.abortCopy.passage = s.passage ∧ s.abortCopy.capture = s.capture ∧
    s.abortCopy.render = s.render ∧ s.abortCopy.queue = s.queue ∧ s.abortCopy.stale = s.stale ∧
    s.abortCopy.address = s.address ∧ s.abortCopy.glass = s.glass ∧ s.abortCopy.seq = s.seq ∧
    s.abortCopy.control = s.control ∧ s.abortCopy.port.refreshWaiting = s.port.refreshWaiting ∧
    s.abortCopy.port.passWaiting = s.port.passWaiting ∧ s.abortCopy.port.renderWaiting = s.port.renderWaiting ∧
    s.abortCopy.port.pendingRefresh = s.port.pendingRefresh ∧ s.abortCopy.port.refreshTimer = s.port.refreshTimer ∧
    s.abortCopy.port.refreshRow = s.port.refreshRow ∧
    s.abortCopy.port.deciding = s.port.deciding ∧ s.abortCopy.port.ties = s.port.ties ∧
    s.abortCopy.copy.request = s.copy.request ∧
    s.abortCopy.copy.row = s.copy.row ∧ s.abortCopy.copy.word = s.copy.word ∧
    s.abortCopy.copy.rowsRemaining = s.copy.rowsRemaining ∧ s.abortCopy.report.causes = s.report.causes ∧
    s.abortCopy.report.quietArmed = s.report.quietArmed ∧ s.abortCopy.report.writeCount = s.report.writeCount ∧
    s.abortCopy.report.atn = s.report.atn := by
  (repeat' apply And.intro) <;> (unfold State.abortCopy; try dsimp only) <;> (repeat' split) <;> rfl

@[simp] theorem State.blockIdle_keeps (s : State) :
    s.blockIdle.pending = s.pending ∧ s.blockIdle.dram = s.dram ∧ s.blockIdle.dramEpoch = s.dramEpoch ∧
    s.blockIdle.straps = s.straps ∧ s.blockIdle.por = s.por ∧ s.blockIdle.sysclr = s.sysclr ∧
    s.blockIdle.standing = s.standing ∧ s.blockIdle.passage = s.passage ∧ s.blockIdle.capture = s.capture ∧
    s.blockIdle.render = s.render ∧ s.blockIdle.queue = s.queue ∧ s.blockIdle.stale = s.stale ∧
    s.blockIdle.address = s.address ∧ s.blockIdle.glass = s.glass ∧ s.blockIdle.seq = s.seq ∧
    s.blockIdle.copy = s.copy ∧ s.blockIdle.control = s.control ∧ s.blockIdle.port.current = s.port.current ∧
    s.blockIdle.port.refreshWaiting = s.port.refreshWaiting ∧ s.blockIdle.port.passWaiting = s.port.passWaiting ∧
    s.blockIdle.port.renderWaiting = s.port.renderWaiting ∧ s.blockIdle.port.copyWaiting = s.port.copyWaiting ∧
    s.blockIdle.port.pendingRefresh = s.port.pendingRefresh ∧ s.blockIdle.port.refreshTimer = s.port.refreshTimer ∧
    s.blockIdle.port.refreshRow = s.port.refreshRow ∧
    s.blockIdle.port.deciding = s.port.deciding ∧ s.blockIdle.port.ties = s.port.ties ∧
    s.blockIdle.report.causes = s.report.causes ∧
    s.blockIdle.report.quietArmed = s.report.quietArmed ∧ s.blockIdle.report.due = s.report.due ∧
    s.blockIdle.report.writeCount = s.report.writeCount ∧ s.blockIdle.report.atn = s.report.atn := by
  (repeat' apply And.intro) <;> (unfold State.blockIdle; try dsimp only) <;> (repeat' split) <;> rfl

@[simp] theorem State.takeBurst_keeps (s : State) (o : CellOrder) :
    (s.takeBurst o).pending = s.pending ∧ (s.takeBurst o).dram = s.dram ∧ (s.takeBurst o).dramEpoch = s.dramEpoch ∧
    (s.takeBurst o).straps = s.straps ∧ (s.takeBurst o).por = s.por ∧ (s.takeBurst o).sysclr = s.sysclr ∧
    (s.takeBurst o).standing = s.standing ∧ (s.takeBurst o).passage = s.passage ∧
    (s.takeBurst o).capture = s.capture ∧ (s.takeBurst o).render = s.render ∧ (s.takeBurst o).stale = s.stale ∧
    (s.takeBurst o).seq = s.seq ∧ (s.takeBurst o).port = s.port ∧ (s.takeBurst o).copy = s.copy ∧
    (s.takeBurst o).control = s.control ∧ (s.takeBurst o).address.running = s.address.running ∧
    (s.takeBurst o).address.currentA = s.address.currentA ∧ (s.takeBurst o).address.currentB = s.address.currentB ∧
    (s.takeBurst o).address.cycleA = s.address.cycleA ∧ (s.takeBurst o).address.cycleB = s.address.cycleB ∧
    (s.takeBurst o).address.phase = s.address.phase ∧ (s.takeBurst o).address.tick = s.address.tick ∧
    (s.takeBurst o).address.globalErases = s.address.globalErases ∧
    (s.takeBurst o).report.causes = s.report.causes ∧ (s.takeBurst o).report.due = s.report.due ∧
    (s.takeBurst o).report.block = s.report.block ∧ (s.takeBurst o).report.writeCount = s.report.writeCount ∧
    (s.takeBurst o).report.atn = s.report.atn := by
  repeat' first | exact rfl | constructor

end Sys2Proof.Machine
end

