-- ==== Sys2Proof/Laws/Ops.lean ====
section
/-! SUPPORT. What the larger operations leave as it was: completed writes, the copy engine's steps, the render
stage's steps and the address slot. -/

namespace Sys2Proof.Machine

@[simp] theorem State.overflow_keeps (s : State) (a : Addr) (l : Lanes) :
    (s.overflow a l).pending = s.pending ∧ (s.overflow a l).dram = s.dram ∧
    (s.overflow a l).dramEpoch = s.dramEpoch ∧ (s.overflow a l).straps = s.straps ∧ (s.overflow a l).por = s.por ∧
    (s.overflow a l).sysclr = s.sysclr ∧ (s.overflow a l).standing = s.standing ∧
    (s.overflow a l).passage = s.passage ∧ (s.overflow a l).render = s.render ∧ (s.overflow a l).queue = s.queue ∧
    (s.overflow a l).address = s.address ∧ (s.overflow a l).glass = s.glass ∧ (s.overflow a l).seq = s.seq ∧
    (s.overflow a l).copy = s.copy ∧ (s.overflow a l).control = s.control ∧
    (s.overflow a l).capture.records = s.capture.records ∧
    (s.overflow a l).capture.reservations = s.capture.reservations ∧
    (s.overflow a l).port.current = s.port.current ∧ (s.overflow a l).port.refreshWaiting = s.port.refreshWaiting ∧
    (s.overflow a l).port.passWaiting = s.port.passWaiting ∧
    (s.overflow a l).port.renderWaiting = s.port.renderWaiting ∧
    (s.overflow a l).port.copyWaiting = s.port.copyWaiting ∧
    (s.overflow a l).port.pendingRefresh = s.port.pendingRefresh ∧
    (s.overflow a l).port.refreshTimer = s.port.refreshTimer ∧
    (s.overflow a l).port.refreshRow = s.port.refreshRow ∧
    (s.overflow a l).port.deciding = s.port.deciding ∧ (s.overflow a l).port.ties = s.port.ties ∧
    (s.overflow a l).report.quietArmed = s.report.quietArmed ∧
    (s.overflow a l).report.writeCount = s.report.writeCount := by
  unfold State.overflow
  try dsimp only
  (repeat' split) <;> simp

@[simp] theorem State.pictureWritten_keeps (s : State) (a : Addr) (l : Lanes) (w : Word) (d : GuardDecision) :
    (s.pictureWritten a l w d).pending = s.pending ∧ (s.pictureWritten a l w d).dram = s.dram ∧
    (s.pictureWritten a l w d).dramEpoch = s.dramEpoch ∧ (s.pictureWritten a l w d).straps = s.straps ∧
    (s.pictureWritten a l w d).por = s.por ∧ (s.pictureWritten a l w d).sysclr = s.sysclr ∧
    (s.pictureWritten a l w d).standing = s.standing ∧ (s.pictureWritten a l w d).passage = s.passage ∧
    (s.pictureWritten a l w d).render = s.render ∧ (s.pictureWritten a l w d).queue = s.queue ∧
    (s.pictureWritten a l w d).address = s.address ∧ (s.pictureWritten a l w d).glass = s.glass ∧
    (s.pictureWritten a l w d).seq = s.seq ∧ (s.pictureWritten a l w d).copy = s.copy ∧
    (s.pictureWritten a l w d).control = s.control ∧ (s.pictureWritten a l w d).port.current = s.port.current ∧
    (s.pictureWritten a l w d).port.refreshWaiting = s.port.refreshWaiting ∧
    (s.pictureWritten a l w d).port.passWaiting = s.port.passWaiting ∧
    (s.pictureWritten a l w d).port.renderWaiting = s.port.renderWaiting ∧
    (s.pictureWritten a l w d).port.copyWaiting = s.port.copyWaiting ∧
    (s.pictureWritten a l w d).port.pendingRefresh = s.port.pendingRefresh ∧
    (s.pictureWritten a l w d).port.refreshTimer = s.port.refreshTimer ∧
    (s.pictureWritten a l w d).port.refreshRow = s.port.refreshRow ∧
    (s.pictureWritten a l w d).port.deciding = s.port.deciding ∧ (s.pictureWritten a l w d).port.ties = s.port.ties ∧
    (s.pictureWritten a l w d).report.quietArmed = s.report.quietArmed ∧
    (s.pictureWritten a l w d).report.writeCount = s.report.writeCount := by
  unfold State.pictureWritten
  try dsimp only
  (repeat' split) <;> simp

@[simp] theorem State.landed_keeps (s : State) (a : Addr) (l : Lanes) (w : Word) (d : GuardDecision) :
    (s.landed a l w d).pending = s.pending ∧ (s.landed a l w d).dramEpoch = s.dramEpoch ∧
    (s.landed a l w d).straps = s.straps ∧ (s.landed a l w d).por = s.por ∧ (s.landed a l w d).sysclr = s.sysclr ∧
    (s.landed a l w d).standing = s.standing ∧ (s.landed a l w d).passage = s.passage ∧
    (s.landed a l w d).render = s.render ∧ (s.landed a l w d).queue = s.queue ∧
    (s.landed a l w d).address = s.address ∧ (s.landed a l w d).glass = s.glass ∧ (s.landed a l w d).seq = s.seq ∧
    (s.landed a l w d).copy = s.copy ∧ (s.landed a l w d).port.current = s.port.current ∧
    (s.landed a l w d).port.refreshWaiting = s.port.refreshWaiting ∧
    (s.landed a l w d).port.passWaiting = s.port.passWaiting ∧
    (s.landed a l w d).port.renderWaiting = s.port.renderWaiting ∧
    (s.landed a l w d).port.copyWaiting = s.port.copyWaiting ∧
    (s.landed a l w d).port.pendingRefresh = s.port.pendingRefresh ∧
    (s.landed a l w d).port.refreshTimer = s.port.refreshTimer ∧
    (s.landed a l w d).port.refreshRow = s.port.refreshRow ∧
    (s.landed a l w d).port.deciding = s.port.deciding ∧ (s.landed a l w d).port.ties = s.port.ties ∧
    (s.landed a l w d).control.params = s.control.params ∧
    (s.landed a l w d).control.tables = s.control.tables ∧
    (s.landed a l w d).control.copyWords = s.control.copyWords ∧
    (s.landed a l w d).control.argument = s.control.argument ∧
    (s.landed a l w d).control.checked = s.control.checked ∧
    (s.landed a l w d).control.clampSet = s.control.clampSet ∧
    (s.landed a l w d).control.lastCode = s.control.lastCode ∧
    (s.landed a l w d).control.lastOutcome = s.control.lastOutcome ∧
    (s.landed a l w d).report.quietArmed = s.report.quietArmed ∧
    (s.landed a l w d).report.writeCount = s.report.writeCount := by
  unfold State.landed
  try dsimp only
  (repeat' split) <;> simp

@[simp] theorem State.takeWrite_keeps (s : State) (a : Addr) (u b : Bool) (w : Word) :
    (s.takeWrite a u b w).pending = s.pending ∧ (s.takeWrite a u b w).dram = s.dram ∧
    (s.takeWrite a u b w).dramEpoch = s.dramEpoch ∧ (s.takeWrite a u b w).straps = s.straps ∧
    (s.takeWrite a u b w).por = s.por ∧ (s.takeWrite a u b w).sysclr = s.sysclr ∧
    (s.takeWrite a u b w).standing = s.standing ∧ (s.takeWrite a u b w).render = s.render ∧
    (s.takeWrite a u b w).queue = s.queue ∧ (s.takeWrite a u b w).stale = s.stale ∧
    (s.takeWrite a u b w).address = s.address ∧ (s.takeWrite a u b w).glass = s.glass ∧
    (s.takeWrite a u b w).seq = s.seq ∧ (s.takeWrite a u b w).copy = s.copy ∧
    (s.takeWrite a u b w).control = s.control ∧ (s.takeWrite a u b w).report = s.report ∧
    (s.takeWrite a u b w).passage.guardedWrites = s.passage.guardedWrites ∧
    (s.takeWrite a u b w).passage.busData = s.passage.busData ∧
    (s.takeWrite a u b w).port.current = s.port.current ∧
    (s.takeWrite a u b w).port.refreshWaiting = s.port.refreshWaiting ∧
    (s.takeWrite a u b w).port.reportWaiting = s.port.reportWaiting ∧
    (s.takeWrite a u b w).port.renderWaiting = s.port.renderWaiting ∧
    (s.takeWrite a u b w).port.copyWaiting = s.port.copyWaiting ∧
    (s.takeWrite a u b w).port.pendingRefresh = s.port.pendingRefresh ∧
    (s.takeWrite a u b w).port.refreshTimer = s.port.refreshTimer ∧
    (s.takeWrite a u b w).port.refreshRow = s.port.refreshRow ∧
    (s.takeWrite a u b w).port.deciding = s.port.deciding ∧ (s.takeWrite a u b w).port.ties = s.port.ties := by
  unfold State.takeWrite
  try dsimp only
  (repeat' split) <;> simp

@[simp] theorem State.busWritten_keeps (s : State) (a : Addr) (l : Lanes) (w : Word) (d : GuardDecision) :
    (s.busWritten a l w d).pending = s.pending ∧ (s.busWritten a l w d).dramEpoch = s.dramEpoch ∧
    (s.busWritten a l w d).straps = s.straps ∧ (s.busWritten a l w d).por = s.por ∧
    (s.busWritten a l w d).sysclr = s.sysclr ∧ (s.busWritten a l w d).standing = s.standing ∧
    (s.busWritten a l w d).render = s.render ∧ (s.busWritten a l w d).queue = s.queue ∧
    (s.busWritten a l w d).address = s.address ∧ (s.busWritten a l w d).glass = s.glass ∧
    (s.busWritten a l w d).seq = s.seq ∧ (s.busWritten a l w d).copy = s.copy ∧
    (s.busWritten a l w d).passage.inHand = s.passage.inHand ∧
    (s.busWritten a l w d).passage.presented = s.passage.presented ∧
    (s.busWritten a l w d).passage.stallTimer = s.passage.stallTimer ∧
    (s.busWritten a l w d).passage.rdy = s.passage.rdy ∧
    (s.busWritten a l w d).passage.busData = s.passage.busData ∧
    (s.busWritten a l w d).port.current = s.port.current ∧
    (s.busWritten a l w d).port.refreshWaiting = s.port.refreshWaiting ∧
    (s.busWritten a l w d).port.passWaiting = s.port.passWaiting ∧
    (s.busWritten a l w d).port.renderWaiting = s.port.renderWaiting ∧
    (s.busWritten a l w d).port.copyWaiting = s.port.copyWaiting ∧
    (s.busWritten a l w d).port.pendingRefresh = s.port.pendingRefresh ∧
    (s.busWritten a l w d).port.refreshTimer = s.port.refreshTimer ∧
    (s.busWritten a l w d).port.refreshRow = s.port.refreshRow ∧
    (s.busWritten a l w d).port.deciding = s.port.deciding ∧ (s.busWritten a l w d).port.ties = s.port.ties ∧
    (s.busWritten a l w d).control.params = s.control.params ∧
    (s.busWritten a l w d).control.tables = s.control.tables ∧
    (s.busWritten a l w d).control.copyWords = s.control.copyWords ∧
    (s.busWritten a l w d).control.argument = s.control.argument ∧
    (s.busWritten a l w d).control.checked = s.control.checked ∧
    (s.busWritten a l w d).control.clampSet = s.control.clampSet ∧
    (s.busWritten a l w d).control.lastCode = s.control.lastCode ∧
    (s.busWritten a l w d).control.lastOutcome = s.control.lastOutcome ∧
    (s.busWritten a l w d).report.quietArmed = s.report.quietArmed ∧
    (s.busWritten a l w d).report.writeCount = s.report.writeCount := by
  unfold State.busWritten
  try dsimp only
  (repeat' split) <;> simp

@[simp] theorem State.beginCopyWrite_keeps (s : State) (w : Word) :
    (s.beginCopyWrite w).pending = s.pending ∧ (s.beginCopyWrite w).dram = s.dram ∧
    (s.beginCopyWrite w).dramEpoch = s.dramEpoch ∧ (s.beginCopyWrite w).straps = s.straps ∧
    (s.beginCopyWrite w).por = s.por ∧ (s.beginCopyWrite w).sysclr = s.sysclr ∧
    (s.beginCopyWrite w).standing = s.standing ∧ (s.beginCopyWrite w).passage = s.passage ∧
    (s.beginCopyWrite w).render = s.render ∧ (s.beginCopyWrite w).queue = s.queue ∧
    (s.beginCopyWrite w).stale = s.stale ∧ (s.beginCopyWrite w).address = s.address ∧
    (s.beginCopyWrite w).glass = s.glass ∧ (s.beginCopyWrite w).seq = s.seq ∧
    (s.beginCopyWrite w).control = s.control ∧ (s.beginCopyWrite w).report = s.report ∧
    (s.beginCopyWrite w).port.current = s.port.current ∧
    (s.beginCopyWrite w).port.refreshWaiting = s.port.refreshWaiting ∧
    (s.beginCopyWrite w).port.passWaiting = s.port.passWaiting ∧
    (s.beginCopyWrite w).port.reportWaiting = s.port.reportWaiting ∧
    (s.beginCopyWrite w).port.renderWaiting = s.port.renderWaiting ∧
    (s.beginCopyWrite w).port.pendingRefresh = s.port.pendingRefresh ∧
    (s.beginCopyWrite w).port.refreshTimer = s.port.refreshTimer ∧
    (s.beginCopyWrite w).port.refreshRow = s.port.refreshRow ∧
    (s.beginCopyWrite w).port.deciding = s.port.deciding ∧ (s.beginCopyWrite w).port.ties = s.port.ties ∧
    (s.beginCopyWrite w).copy.request = s.copy.request ∧
    (s.beginCopyWrite w).copy.row = s.copy.row ∧ (s.beginCopyWrite w).copy.word = s.copy.word ∧
    (s.beginCopyWrite w).copy.rowsRemaining = s.copy.rowsRemaining ∧
    (s.beginCopyWrite w).copy.outcome = s.copy.outcome ∧
    (s.beginCopyWrite w).copy.cancelling = s.copy.cancelling := by
  unfold State.beginCopyWrite
  try dsimp only
  (repeat' split) <;> simp

@[simp] theorem State.beginCopyWord_keeps (s : State) :
    s.beginCopyWord.pending = s.pending ∧ s.beginCopyWord.dram = s.dram ∧ s.beginCopyWord.dramEpoch = s.dramEpoch ∧
    s.beginCopyWord.straps = s.straps ∧ s.beginCopyWord.por = s.por ∧ s.beginCopyWord.sysclr = s.sysclr ∧
    s.beginCopyWord.standing = s.standing ∧ s.beginCopyWord.passage = s.passage ∧
    s.beginCopyWord.render = s.render ∧ s.beginCopyWord.queue = s.queue ∧ s.beginCopyWord.stale = s.stale ∧
    s.beginCopyWord.address = s.address ∧ s.beginCopyWord.glass = s.glass ∧ s.beginCopyWord.seq = s.seq ∧
    s.beginCopyWord.control = s.control ∧ s.beginCopyWord.report = s.report ∧
    s.beginCopyWord.port.current = s.port.current ∧ s.beginCopyWord.port.refreshWaiting = s.port.refreshWaiting ∧
    s.beginCopyWord.port.passWaiting = s.port.passWaiting ∧
    s.beginCopyWord.port.reportWaiting = s.port.reportWaiting ∧
    s.beginCopyWord.port.renderWaiting = s.port.renderWaiting ∧
    s.beginCopyWord.port.pendingRefresh = s.port.pendingRefresh ∧
    s.beginCopyWord.port.refreshTimer = s.port.refreshTimer ∧ s.beginCopyWord.port.refreshRow = s.port.refreshRow ∧
    s.beginCopyWord.port.deciding = s.port.deciding ∧ s.beginCopyWord.port.ties = s.port.ties ∧
    s.beginCopyWord.copy.request = s.copy.request ∧ s.beginCopyWord.copy.row = s.copy.row ∧
    s.beginCopyWord.copy.word = s.copy.word ∧ s.beginCopyWord.copy.rowsRemaining = s.copy.rowsRemaining ∧
    s.beginCopyWord.copy.outcome = s.copy.outcome ∧ s.beginCopyWord.copy.cancelling = s.copy.cancelling := by
  unfold State.beginCopyWord
  try dsimp only
  (repeat' split) <;> simp

@[simp] theorem State.startCopy_keeps (s : State) (q : CopyRequest) :
    (s.startCopy q).pending = s.pending ∧ (s.startCopy q).dram = s.dram ∧ (s.startCopy q).dramEpoch = s.dramEpoch ∧
    (s.startCopy q).straps = s.straps ∧ (s.startCopy q).por = s.por ∧ (s.startCopy q).sysclr = s.sysclr ∧
    (s.startCopy q).standing = s.standing ∧ (s.startCopy q).passage = s.passage ∧
    (s.startCopy q).render = s.render ∧ (s.startCopy q).queue = s.queue ∧ (s.startCopy q).stale = s.stale ∧
    (s.startCopy q).address = s.address ∧ (s.startCopy q).glass = s.glass ∧ (s.startCopy q).seq = s.seq ∧
    (s.startCopy q).control = s.control ∧ (s.startCopy q).report = s.report ∧
    (s.startCopy q).port.current = s.port.current ∧ (s.startCopy q).port.refreshWaiting = s.port.refreshWaiting ∧
    (s.startCopy q).port.passWaiting = s.port.passWaiting ∧
    (s.startCopy q).port.reportWaiting = s.port.reportWaiting ∧
    (s.startCopy q).port.renderWaiting = s.port.renderWaiting ∧
    (s.startCopy q).port.pendingRefresh = s.port.pendingRefresh ∧
    (s.startCopy q).port.refreshTimer = s.port.refreshTimer ∧
    (s.startCopy q).port.refreshRow = s.port.refreshRow ∧
    (s.startCopy q).port.deciding = s.port.deciding ∧ (s.startCopy q).port.ties = s.port.ties := by
  unfold State.startCopy
  simp

@[simp] theorem State.copyAdvance_keeps (s : State) (q : CopyRequest) :
    (s.copyAdvance q).pending = s.pending ∧ (s.copyAdvance q).dram = s.dram ∧
    (s.copyAdvance q).dramEpoch = s.dramEpoch ∧ (s.copyAdvance q).straps = s.straps ∧
    (s.copyAdvance q).por = s.por ∧ (s.copyAdvance q).sysclr = s.sysclr ∧ (s.copyAdvance q).standing = s.standing ∧
    (s.copyAdvance q).passage = s.passage ∧ (s.copyAdvance q).render = s.render ∧
    (s.copyAdvance q).queue = s.queue ∧ (s.copyAdvance q).stale = s.stale ∧ (s.copyAdvance q).address = s.address ∧
    (s.copyAdvance q).glass = s.glass ∧ (s.copyAdvance q).seq = s.seq ∧ (s.copyAdvance q).control = s.control ∧
    (s.copyAdvance q).port.current = s.port.current ∧
    (s.copyAdvance q).port.refreshWaiting = s.port.refreshWaiting ∧
    (s.copyAdvance q).port.passWaiting = s.port.passWaiting ∧
    (s.copyAdvance q).port.renderWaiting = s.port.renderWaiting ∧
    (s.copyAdvance q).port.pendingRefresh = s.port.pendingRefresh ∧
    (s.copyAdvance q).port.refreshTimer = s.port.refreshTimer ∧
    (s.copyAdvance q).port.refreshRow = s.port.refreshRow ∧
    (s.copyAdvance q).port.deciding = s.port.deciding ∧ (s.copyAdvance q).port.ties = s.port.ties ∧
    (s.copyAdvance q).copy.request = s.copy.request ∧
    (s.copyAdvance q).report.quietArmed = s.report.quietArmed ∧
    (s.copyAdvance q).report.writeCount = s.report.writeCount := by
  unfold State.copyAdvance
  try dsimp only
  (repeat' split) <;> simp

@[simp] theorem State.orphanCopyWritten_keeps (s : State) (a : Addr) (w : Word) :
    (s.orphanCopyWritten a w).pending = s.pending ∧ (s.orphanCopyWritten a w).dramEpoch = s.dramEpoch ∧
    (s.orphanCopyWritten a w).straps = s.straps ∧ (s.orphanCopyWritten a w).por = s.por ∧
    (s.orphanCopyWritten a w).sysclr = s.sysclr ∧ (s.orphanCopyWritten a w).standing = s.standing ∧
    (s.orphanCopyWritten a w).passage = s.passage ∧ (s.orphanCopyWritten a w).render = s.render ∧
    (s.orphanCopyWritten a w).queue = s.queue ∧ (s.orphanCopyWritten a w).address = s.address ∧
    (s.orphanCopyWritten a w).glass = s.glass ∧ (s.orphanCopyWritten a w).seq = s.seq ∧
    (s.orphanCopyWritten a w).copy = s.copy ∧ (s.orphanCopyWritten a w).port.current = s.port.current ∧
    (s.orphanCopyWritten a w).port.refreshWaiting = s.port.refreshWaiting ∧
    (s.orphanCopyWritten a w).port.passWaiting = s.port.passWaiting ∧
    (s.orphanCopyWritten a w).port.renderWaiting = s.port.renderWaiting ∧
    (s.orphanCopyWritten a w).port.copyWaiting = s.port.copyWaiting ∧
    (s.orphanCopyWritten a w).port.pendingRefresh = s.port.pendingRefresh ∧
    (s.orphanCopyWritten a w).port.refreshTimer = s.port.refreshTimer ∧
    (s.orphanCopyWritten a w).port.refreshRow = s.port.refreshRow ∧
    (s.orphanCopyWritten a w).port.deciding = s.port.deciding ∧ (s.orphanCopyWritten a w).port.ties = s.port.ties ∧
    (s.orphanCopyWritten a w).control.params = s.control.params ∧
    (s.orphanCopyWritten a w).control.tables = s.control.tables ∧
    (s.orphanCopyWritten a w).control.copyWords = s.control.copyWords ∧
    (s.orphanCopyWritten a w).control.argument = s.control.argument ∧
    (s.orphanCopyWritten a w).control.checked = s.control.checked ∧
    (s.orphanCopyWritten a w).control.clampSet = s.control.clampSet ∧
    (s.orphanCopyWritten a w).control.lastCode = s.control.lastCode ∧
    (s.orphanCopyWritten a w).control.lastOutcome = s.control.lastOutcome ∧
    (s.orphanCopyWritten a w).report.quietArmed = s.report.quietArmed ∧
    (s.orphanCopyWritten a w).report.writeCount = s.report.writeCount := by
  unfold State.orphanCopyWritten
  try dsimp only
  (repeat' split) <;> simp

@[simp] theorem State.copyWritten_keeps (s : State) (q : CopyRequest) (a : Addr) (w : Word) (d : GuardDecision) :
    (s.copyWritten q a w d).pending = s.pending ∧ (s.copyWritten q a w d).dramEpoch = s.dramEpoch ∧
    (s.copyWritten q a w d).straps = s.straps ∧ (s.copyWritten q a w d).por = s.por ∧
    (s.copyWritten q a w d).sysclr = s.sysclr ∧ (s.copyWritten q a w d).standing = s.standing ∧
    (s.copyWritten q a w d).passage = s.passage ∧ (s.copyWritten q a w d).render = s.render ∧
    (s.copyWritten q a w d).queue = s.queue ∧ (s.copyWritten q a w d).address = s.address ∧
    (s.copyWritten q a w d).glass = s.glass ∧ (s.copyWritten q a w d).seq = s.seq ∧
    (s.copyWritten q a w d).port.current = s.port.current ∧
    (s.copyWritten q a w d).port.refreshWaiting = s.port.refreshWaiting ∧
    (s.copyWritten q a w d).port.passWaiting = s.port.passWaiting ∧
    (s.copyWritten q a w d).port.renderWaiting = s.port.renderWaiting ∧
    (s.copyWritten q a w d).port.pendingRefresh = s.port.pendingRefresh ∧
    (s.copyWritten q a w d).port.refreshTimer = s.port.refreshTimer ∧
    (s.copyWritten q a w d).port.refreshRow = s.port.refreshRow ∧
    (s.copyWritten q a w d).port.deciding = s.port.deciding ∧ (s.copyWritten q a w d).port.ties = s.port.ties ∧
    (s.copyWritten q a w d).copy.request = s.copy.request ∧
    (s.copyWritten q a w d).control.params = s.control.params ∧
    (s.copyWritten q a w d).control.tables = s.control.tables ∧
    (s.copyWritten q a w d).control.copyWords = s.control.copyWords ∧
    (s.copyWritten q a w d).control.argument = s.control.argument ∧
    (s.copyWritten q a w d).control.checked = s.control.checked ∧
    (s.copyWritten q a w d).control.clampSet = s.control.clampSet ∧
    (s.copyWritten q a w d).control.lastCode = s.control.lastCode ∧
    (s.copyWritten q a w d).control.lastOutcome = s.control.lastOutcome ∧
    (s.copyWritten q a w d).report.quietArmed = s.report.quietArmed ∧
    (s.copyWritten q a w d).report.writeCount = s.report.writeCount := by
  unfold State.copyWritten
  try dsimp only
  (repeat' split) <;> simp

@[simp] theorem State.resweepRead_keeps (s : State) (c : CellWord) (g : List (Addr × Word)) (l : List Addr) :
    (s.resweepRead c g l).pending = s.pending ∧ (s.resweepRead c g l).dram = s.dram ∧
    (s.resweepRead c g l).dramEpoch = s.dramEpoch ∧ (s.resweepRead c g l).straps = s.straps ∧
    (s.resweepRead c g l).por = s.por ∧ (s.resweepRead c g l).sysclr = s.sysclr ∧
    (s.resweepRead c g l).standing = s.standing ∧ (s.resweepRead c g l).passage = s.passage ∧
    (s.resweepRead c g l).capture = s.capture ∧ (s.resweepRead c g l).queue = s.queue ∧
    (s.resweepRead c g l).stale = s.stale ∧ (s.resweepRead c g l).address = s.address ∧
    (s.resweepRead c g l).glass = s.glass ∧ (s.resweepRead c g l).seq = s.seq ∧
    (s.resweepRead c g l).copy = s.copy ∧ (s.resweepRead c g l).control = s.control ∧
    (s.resweepRead c g l).report = s.report ∧ (s.resweepRead c g l).render.captureCount = s.render.captureCount ∧
    (s.resweepRead c g l).render.wipePosition = s.render.wipePosition ∧
    (s.resweepRead c g l).port.current = s.port.current ∧
    (s.resweepRead c g l).port.refreshWaiting = s.port.refreshWaiting ∧
    (s.resweepRead c g l).port.passWaiting = s.port.passWaiting ∧
    (s.resweepRead c g l).port.reportWaiting = s.port.reportWaiting ∧
    (s.resweepRead c g l).port.copyWaiting = s.port.copyWaiting ∧
    (s.resweepRead c g l).port.pendingRefresh = s.port.pendingRefresh ∧
    (s.resweepRead c g l).port.refreshTimer = s.port.refreshTimer ∧
    (s.resweepRead c g l).port.refreshRow = s.port.refreshRow ∧
    (s.resweepRead c g l).port.deciding = s.port.deciding ∧ (s.resweepRead c g l).port.ties = s.port.ties := by
  unfold State.resweepRead
  try dsimp only
  (repeat' split) <;> simp

@[simp] theorem State.beginCapture_keeps (s : State) (r : CaptureRecord) (c : CellWord) (l : List CellWord) :
    (s.beginCapture r c l).pending = s.pending ∧ (s.beginCapture r c l).dram = s.dram ∧
    (s.beginCapture r c l).dramEpoch = s.dramEpoch ∧ (s.beginCapture r c l).straps = s.straps ∧
    (s.beginCapture r c l).por = s.por ∧ (s.beginCapture r c l).sysclr = s.sysclr ∧
    (s.beginCapture r c l).standing = s.standing ∧ (s.beginCapture r c l).passage = s.passage ∧
    (s.beginCapture r c l).capture = s.capture ∧ (s.beginCapture r c l).queue = s.queue ∧
    (s.beginCapture r c l).stale = s.stale ∧ (s.beginCapture r c l).address = s.address ∧
    (s.beginCapture r c l).glass = s.glass ∧ (s.beginCapture r c l).seq = s.seq ∧
    (s.beginCapture r c l).copy = s.copy ∧ (s.beginCapture r c l).control = s.control ∧
    (s.beginCapture r c l).report = s.report ∧ (s.beginCapture r c l).render.captureCount = s.render.captureCount ∧
    (s.beginCapture r c l).render.wipePosition = s.render.wipePosition ∧
    (s.beginCapture r c l).port.current = s.port.current ∧
    (s.beginCapture r c l).port.refreshWaiting = s.port.refreshWaiting ∧
    (s.beginCapture r c l).port.passWaiting = s.port.passWaiting ∧
    (s.beginCapture r c l).port.reportWaiting = s.port.reportWaiting ∧
    (s.beginCapture r c l).port.copyWaiting = s.port.copyWaiting ∧
    (s.beginCapture r c l).port.pendingRefresh = s.port.pendingRefresh ∧
    (s.beginCapture r c l).port.refreshTimer = s.port.refreshTimer ∧
    (s.beginCapture r c l).port.refreshRow = s.port.refreshRow ∧
    (s.beginCapture r c l).port.deciding = s.port.deciding ∧ (s.beginCapture r c l).port.ties = s.port.ties := by
  unfold State.beginCapture
  try dsimp only
  (repeat' split) <;> simp

@[simp] theorem State.beginResweep_keeps (s : State) (c : CellWord) :
    (s.beginResweep c).pending = s.pending ∧ (s.beginResweep c).dram = s.dram ∧
    (s.beginResweep c).dramEpoch = s.dramEpoch ∧ (s.beginResweep c).straps = s.straps ∧
    (s.beginResweep c).por = s.por ∧ (s.beginResweep c).sysclr = s.sysclr ∧
    (s.beginResweep c).standing = s.standing ∧ (s.beginResweep c).passage = s.passage ∧
    (s.beginResweep c).capture = s.capture ∧ (s.beginResweep c).queue = s.queue ∧
    (s.beginResweep c).stale = s.stale ∧ (s.beginResweep c).address = s.address ∧
    (s.beginResweep c).glass = s.glass ∧ (s.beginResweep c).seq = s.seq ∧ (s.beginResweep c).copy = s.copy ∧
    (s.beginResweep c).control = s.control ∧ (s.beginResweep c).report = s.report ∧
    (s.beginResweep c).render.captureCount = s.render.captureCount ∧
    (s.beginResweep c).render.wipePosition = s.render.wipePosition ∧
    (s.beginResweep c).port.current = s.port.current ∧
    (s.beginResweep c).port.refreshWaiting = s.port.refreshWaiting ∧
    (s.beginResweep c).port.passWaiting = s.port.passWaiting ∧
    (s.beginResweep c).port.reportWaiting = s.port.reportWaiting ∧
    (s.beginResweep c).port.copyWaiting = s.port.copyWaiting ∧
    (s.beginResweep c).port.pendingRefresh = s.port.pendingRefresh ∧
    (s.beginResweep c).port.refreshTimer = s.port.refreshTimer ∧
    (s.beginResweep c).port.refreshRow = s.port.refreshRow ∧
    (s.beginResweep c).port.deciding = s.port.deciding ∧ (s.beginResweep c).port.ties = s.port.ties := by
  unfold State.beginResweep
  try dsimp only
  (repeat' split) <;> simp

@[simp] theorem State.nextCaptureWord_keeps (s : State) (r : CaptureRecord) (l : List CellWord) :
    (s.nextCaptureWord r l).pending = s.pending ∧ (s.nextCaptureWord r l).dram = s.dram ∧
    (s.nextCaptureWord r l).dramEpoch = s.dramEpoch ∧ (s.nextCaptureWord r l).straps = s.straps ∧
    (s.nextCaptureWord r l).por = s.por ∧ (s.nextCaptureWord r l).sysclr = s.sysclr ∧
    (s.nextCaptureWord r l).standing = s.standing ∧ (s.nextCaptureWord r l).passage = s.passage ∧
    (s.nextCaptureWord r l).capture = s.capture ∧ (s.nextCaptureWord r l).queue = s.queue ∧
    (s.nextCaptureWord r l).stale = s.stale ∧ (s.nextCaptureWord r l).address = s.address ∧
    (s.nextCaptureWord r l).glass = s.glass ∧ (s.nextCaptureWord r l).seq = s.seq ∧
    (s.nextCaptureWord r l).copy = s.copy ∧ (s.nextCaptureWord r l).control = s.control ∧
    (s.nextCaptureWord r l).report = s.report ∧
    (s.nextCaptureWord r l).render.captureCount = s.render.captureCount ∧
    (s.nextCaptureWord r l).render.wipePosition = s.render.wipePosition ∧
    (s.nextCaptureWord r l).port.current = s.port.current ∧
    (s.nextCaptureWord r l).port.refreshWaiting = s.port.refreshWaiting ∧
    (s.nextCaptureWord r l).port.passWaiting = s.port.passWaiting ∧
    (s.nextCaptureWord r l).port.reportWaiting = s.port.reportWaiting ∧
    (s.nextCaptureWord r l).port.copyWaiting = s.port.copyWaiting ∧
    (s.nextCaptureWord r l).port.pendingRefresh = s.port.pendingRefresh ∧
    (s.nextCaptureWord r l).port.refreshTimer = s.port.refreshTimer ∧
    (s.nextCaptureWord r l).port.refreshRow = s.port.refreshRow ∧
    (s.nextCaptureWord r l).port.deciding = s.port.deciding ∧ (s.nextCaptureWord r l).port.ties = s.port.ties := by
  unfold State.nextCaptureWord
  try dsimp only
  (repeat' split) <;> simp

@[simp] theorem State.cellWordDone_keeps (s : State) (i : RenderItem) :
    (s.cellWordDone i).pending = s.pending ∧ (s.cellWordDone i).dram = s.dram ∧
    (s.cellWordDone i).dramEpoch = s.dramEpoch ∧ (s.cellWordDone i).straps = s.straps ∧
    (s.cellWordDone i).por = s.por ∧ (s.cellWordDone i).sysclr = s.sysclr ∧
    (s.cellWordDone i).standing = s.standing ∧ (s.cellWordDone i).passage = s.passage ∧
    (s.cellWordDone i).capture = s.capture ∧ (s.cellWordDone i).queue = s.queue ∧
    (s.cellWordDone i).stale = s.stale ∧ (s.cellWordDone i).address = s.address ∧
    (s.cellWordDone i).glass = s.glass ∧ (s.cellWordDone i).seq = s.seq ∧ (s.cellWordDone i).copy = s.copy ∧
    (s.cellWordDone i).control = s.control ∧ (s.cellWordDone i).report = s.report ∧
    (s.cellWordDone i).render.captureCount = s.render.captureCount ∧
    (s.cellWordDone i).render.wipePosition = s.render.wipePosition ∧
    (s.cellWordDone i).port.current = s.port.current ∧
    (s.cellWordDone i).port.refreshWaiting = s.port.refreshWaiting ∧
    (s.cellWordDone i).port.passWaiting = s.port.passWaiting ∧
    (s.cellWordDone i).port.reportWaiting = s.port.reportWaiting ∧
    (s.cellWordDone i).port.copyWaiting = s.port.copyWaiting ∧
    (s.cellWordDone i).port.pendingRefresh = s.port.pendingRefresh ∧
    (s.cellWordDone i).port.refreshTimer = s.port.refreshTimer ∧
    (s.cellWordDone i).port.refreshRow = s.port.refreshRow ∧
    (s.cellWordDone i).port.deciding = s.port.deciding ∧ (s.cellWordDone i).port.ties = s.port.ties := by
  unfold State.cellWordDone
  try dsimp only
  (repeat' split) <;> simp

@[simp] theorem State.compareCell_keeps (s : State) (i : RenderItem) (c : CellWord) (a : Addr) (w : Word) :
    (s.compareCell i c a w).pending = s.pending ∧ (s.compareCell i c a w).dram = s.dram ∧
    (s.compareCell i c a w).dramEpoch = s.dramEpoch ∧ (s.compareCell i c a w).straps = s.straps ∧
    (s.compareCell i c a w).por = s.por ∧ (s.compareCell i c a w).sysclr = s.sysclr ∧
    (s.compareCell i c a w).standing = s.standing ∧ (s.compareCell i c a w).passage = s.passage ∧
    (s.compareCell i c a w).capture = s.capture ∧ (s.compareCell i c a w).stale = s.stale ∧
    (s.compareCell i c a w).address = s.address ∧ (s.compareCell i c a w).glass = s.glass ∧
    (s.compareCell i c a w).seq = s.seq ∧ (s.compareCell i c a w).copy = s.copy ∧
    (s.compareCell i c a w).control = s.control ∧ (s.compareCell i c a w).report = s.report ∧
    (s.compareCell i c a w).render.captureCount = s.render.captureCount ∧
    (s.compareCell i c a w).render.wipePosition = s.render.wipePosition ∧
    (s.compareCell i c a w).port.current = s.port.current ∧
    (s.compareCell i c a w).port.refreshWaiting = s.port.refreshWaiting ∧
    (s.compareCell i c a w).port.passWaiting = s.port.passWaiting ∧
    (s.compareCell i c a w).port.reportWaiting = s.port.reportWaiting ∧
    (s.compareCell i c a w).port.copyWaiting = s.port.copyWaiting ∧
    (s.compareCell i c a w).port.pendingRefresh = s.port.pendingRefresh ∧
    (s.compareCell i c a w).port.refreshTimer = s.port.refreshTimer ∧
    (s.compareCell i c a w).port.refreshRow = s.port.refreshRow ∧
    (s.compareCell i c a w).port.deciding = s.port.deciding ∧ (s.compareCell i c a w).port.ties = s.port.ties := by
  unfold State.compareCell
  try dsimp only
  (repeat' split) <;> simp

@[simp] theorem State.globalErase_keeps (s : State) :
    s.globalErase.pending = s.pending ∧ s.globalErase.dram = s.dram ∧ s.globalErase.dramEpoch = s.dramEpoch ∧
    s.globalErase.straps = s.straps ∧ s.globalErase.por = s.por ∧ s.globalErase.sysclr = s.sysclr ∧
    s.globalErase.standing = s.standing ∧ s.globalErase.passage = s.passage ∧ s.globalErase.capture = s.capture ∧
    s.globalErase.render = s.render ∧ s.globalErase.queue = s.queue ∧ s.globalErase.stale = s.stale ∧
    s.globalErase.copy = s.copy ∧ s.globalErase.control = s.control ∧
    s.globalErase.address.running = s.address.running ∧ s.globalErase.address.currentA = s.address.currentA ∧
    s.globalErase.address.currentB = s.address.currentB ∧ s.globalErase.address.cycleA = s.address.cycleA ∧
    s.globalErase.address.cycleB = s.address.cycleB ∧ s.globalErase.address.phase = s.address.phase ∧
    s.globalErase.address.tick = s.address.tick ∧ s.globalErase.address.cellsAddressed = s.address.cellsAddressed ∧
    s.globalErase.address.droppedOrders = s.address.droppedOrders ∧
    s.globalErase.seq.recoveryCount = s.seq.recoveryCount ∧ s.globalErase.seq.faults = s.seq.faults ∧
    s.globalErase.seq.strikeX = s.seq.strikeX ∧ s.globalErase.seq.strikeY = s.seq.strikeY ∧
    s.globalErase.seq.outX = s.seq.outX ∧ s.globalErase.seq.outY = s.seq.outY ∧
    s.globalErase.seq.wipeDone = s.seq.wipeDone ∧ s.globalErase.seq.chargeTimer = s.seq.chargeTimer ∧
    s.globalErase.seq.restTimer = s.seq.restTimer ∧ s.globalErase.seq.hven = s.seq.hven ∧
    s.globalErase.seq.hvok = s.seq.hvok ∧ s.globalErase.seq.hvoc = s.seq.hvoc ∧ s.globalErase.seq.gfx = s.seq.gfx ∧
    s.globalErase.seq.gfy = s.seq.gfy ∧ s.globalErase.seq.debounceHvok = s.seq.debounceHvok ∧
    s.globalErase.seq.debounceHvoc = s.seq.debounceHvoc ∧ s.globalErase.seq.debounceX = s.seq.debounceX ∧
    s.globalErase.seq.debounceY = s.seq.debounceY ∧ s.globalErase.port.current = s.port.current ∧
    s.globalErase.port.refreshWaiting = s.port.refreshWaiting ∧
    s.globalErase.port.passWaiting = s.port.passWaiting ∧ s.globalErase.port.renderWaiting = s.port.renderWaiting ∧
    s.globalErase.port.copyWaiting = s.port.copyWaiting ∧
    s.globalErase.port.pendingRefresh = s.port.pendingRefresh ∧
    s.globalErase.port.refreshTimer = s.port.refreshTimer ∧ s.globalErase.port.refreshRow = s.port.refreshRow ∧
    s.globalErase.port.deciding = s.port.deciding ∧ s.globalErase.port.ties = s.port.ties ∧
    s.globalErase.report.writeCount = s.report.writeCount := by
  unfold State.globalErase
  try dsimp only
  (repeat' split) <;> simp

@[simp] theorem State.slot_keeps (s : State) :
    s.slot.pending = s.pending ∧ s.slot.dram = s.dram ∧ s.slot.dramEpoch = s.dramEpoch ∧ s.slot.straps = s.straps ∧
    s.slot.por = s.por ∧ s.slot.sysclr = s.sysclr ∧ s.slot.standing = s.standing ∧ s.slot.passage = s.passage ∧
    s.slot.capture = s.capture ∧ s.slot.render = s.render ∧ s.slot.stale = s.stale ∧ s.slot.copy = s.copy ∧
    s.slot.control = s.control ∧ s.slot.address.running = s.address.running ∧
    s.slot.address.currentA = s.address.currentA ∧ s.slot.address.currentB = s.address.currentB ∧
    s.slot.address.cycleA = s.address.cycleA ∧ s.slot.address.cycleB = s.address.cycleB ∧
    s.slot.address.phase = s.address.phase ∧ s.slot.address.tick = s.address.tick ∧
    s.slot.seq.recoveryCount = s.seq.recoveryCount ∧ s.slot.seq.faults = s.seq.faults ∧
    s.slot.seq.strikeX = s.seq.strikeX ∧ s.slot.seq.strikeY = s.seq.strikeY ∧ s.slot.seq.outX = s.seq.outX ∧
    s.slot.seq.outY = s.seq.outY ∧ s.slot.seq.wipeDone = s.seq.wipeDone ∧
    s.slot.seq.chargeTimer = s.seq.chargeTimer ∧ s.slot.seq.restTimer = s.seq.restTimer ∧
    s.slot.seq.hven = s.seq.hven ∧ s.slot.seq.hvok = s.seq.hvok ∧ s.slot.seq.hvoc = s.seq.hvoc ∧
    s.slot.seq.gfx = s.seq.gfx ∧ s.slot.seq.gfy = s.seq.gfy ∧ s.slot.seq.debounceHvok = s.seq.debounceHvok ∧
    s.slot.seq.debounceHvoc = s.seq.debounceHvoc ∧ s.slot.seq.debounceX = s.seq.debounceX ∧
    s.slot.seq.debounceY = s.seq.debounceY ∧ s.slot.port.current = s.port.current ∧
    s.slot.port.refreshWaiting = s.port.refreshWaiting ∧ s.slot.port.passWaiting = s.port.passWaiting ∧
    s.slot.port.renderWaiting = s.port.renderWaiting ∧ s.slot.port.copyWaiting = s.port.copyWaiting ∧
    s.slot.port.pendingRefresh = s.port.pendingRefresh ∧ s.slot.port.refreshTimer = s.port.refreshTimer ∧
    s.slot.port.refreshRow = s.port.refreshRow ∧
    s.slot.port.deciding = s.port.deciding ∧ s.slot.port.ties = s.port.ties ∧
    s.slot.report.writeCount = s.report.writeCount := by
  unfold State.slot
  try dsimp only
  (repeat' split) <;> simp

@[simp] theorem State.writeBlock_keeps (s : State) (a : Nat) (ws : List Word) :
    (s.writeBlock a ws).pending = s.pending ∧ (s.writeBlock a ws).dramEpoch = s.dramEpoch ∧
    (s.writeBlock a ws).straps = s.straps ∧ (s.writeBlock a ws).por = s.por ∧
    (s.writeBlock a ws).sysclr = s.sysclr ∧ (s.writeBlock a ws).standing = s.standing ∧
    (s.writeBlock a ws).passage = s.passage ∧ (s.writeBlock a ws).capture = s.capture ∧
    (s.writeBlock a ws).render = s.render ∧ (s.writeBlock a ws).queue = s.queue ∧
    (s.writeBlock a ws).stale = s.stale ∧ (s.writeBlock a ws).address = s.address ∧
    (s.writeBlock a ws).glass = s.glass ∧ (s.writeBlock a ws).seq = s.seq ∧
    (s.writeBlock a ws).port = s.port ∧ (s.writeBlock a ws).copy = s.copy ∧
    (s.writeBlock a ws).control = s.control ∧ (s.writeBlock a ws).report = s.report := by
  induction ws generalizing s a with
  | nil => simp [State.writeBlock]
  | cons w ws ih => simp [State.writeBlock, ih]

theorem PanelState.powered_of_addressed {p : PanelState} (h : p.addressed = true) : p.powered = true := by
  cases p <;> simp_all [PanelState.addressed, PanelState.powered]

/-- A command row comes about when the oldest hand-over is a command take with its code; the command acts and is
recorded (R145). -/
theorem commandRow_of {isMine : Byte → Bool} {act : State → State × CommandOutcome} {s : State} {h : HandOver}
    {rest : List HandOver} (hh : s.control.handOvers = h :: rest) (hc : h.isCommand = true)
    (hm : isMine (lowByte h.data) = true) :
    commandRow isMine act s = some ((act (s.takeHandOver h rest)).1.recordCommand (lowByte h.data)
      (act (s.takeHandOver h rest)).2) := by
  unfold commandRow
  rw [hh]
  dsimp only
  rw [if_pos (by rw [hc, hm]; rfl)]

/-- And in no other case. -/
theorem commandRow_cases {isMine : Byte → Bool} {act : State → State × CommandOutcome} {s t : State}
    (h : commandRow isMine act s = some t) : ∃ o rest, s.control.handOvers = o :: rest ∧ o.isCommand = true ∧
      isMine (lowByte o.data) = true ∧
      t = (act (s.takeHandOver o rest)).1.recordCommand (lowByte o.data) (act (s.takeHandOver o rest)).2 := by
  unfold commandRow at h
  split at h
  · cases h
  · rename_i o rest hh
    dsimp only at h
    split at h
    · rename_i hc
      cases h
      rw [Bool.and_eq_true] at hc
      exact ⟨o, rest, hh, hc.1, hc.2, rfl⟩
    · cases h

/-! ### The port's decision -/

/-- The grants that can be made are those of the waiting requests. -/
theorem MemoryPort.mem_candidates (p q : MemoryPort) : q ∈ p.candidates ↔
    (p.refreshWaiting = true ∧ q = { p.give .refresh with refreshWaiting := false }) ∨
    (p.passWaiting = true ∧ q = { p.give .passthrough with passWaiting := false }) ∨
    (∃ r, p.reportWaiting = some r ∧ q = { p.give r.grant with reportWaiting := none }) ∨
    (∃ a, p.renderWaiting = some a ∧ q = { p.give (.render a true) with renderWaiting := none }) ∨
    ∃ a, p.copyWaiting = some a ∧ q = { p.give (.copy a true) with copyWaiting := none } := by
  unfold MemoryPort.candidates
  cases p.refreshWaiting <;> cases p.passWaiting <;> cases p.reportWaiting <;> cases p.renderWaiting <;>
    cases p.copyWaiting <;> simp

/-- The decision at the end of a grant makes the port idle, with no request waiting, or grants a waiting one. -/
theorem MemoryPort.grantHighest_cases (p : MemoryPort) :
    (p.candidates = [] ∧ p.grantHighest = { p with deciding := false }) ∨ p.grantHighest ∈ p.candidates := by
  unfold MemoryPort.grantHighest
  cases p.candidates <;> simp

/-- The decision at an idle port grants a waiting request; only the count of the ties may move beside it. -/
theorem MemoryPort.grantArrived_cases {p q : MemoryPort} (h : p.grantArrived = some q) :
    ∃ g ∈ p.candidates, q = g ∨ q = { g with ties := p.ties + 1 } := by
  unfold MemoryPort.grantArrived at h
  split at h
  · cases h
  · rename_i hc; cases h; exact ⟨q, by simp [hc], .inl rfl⟩
  · rename_i g gs _ hc
    cases h
    refine ⟨_, ?_, .inr rfl⟩
    rw [hc]
    have hlt : Config.takenFirst p.ties % (g :: gs).length < (g :: gs).length := Nat.mod_lt _ (by simp)
    rw [List.getD_eq_getElem _ _ hlt]
    exact List.getElem_mem hlt

/-- What GRANT_DECISION can do: with no grant in progress it makes the port idle or grants a waiting request. -/
theorem rowGrantDecision_cases {s t : State} (h : rowGrantDecision s = some t) : s.port.current = none ∧
    ∃ q : MemoryPort, t = { s with port := q } ∧
      ((s.port.deciding = true ∧ s.port.candidates = [] ∧ q = { s.port with deciding := false }) ∨
        ∃ g ∈ s.port.candidates, q = g ∨ q = { g with ties := s.port.ties + 1 }) := by
  unfold rowGrantDecision at h
  split at h
  · cases h
  · rename_i hc
    refine ⟨hc, ?_⟩
    split at h
    · rename_i hd
      cases h
      refine ⟨_, rfl, ?_⟩
      rcases s.port.grantHighest_cases with ⟨hn, hq⟩ | hm
      · exact .inl ⟨hd, hn, hq⟩
      · exact .inr ⟨_, hm, .inl rfl⟩
    · rcases ha : s.port.grantArrived with _ | q
      · rw [ha] at h; cases h
      · rw [ha] at h; cases h
        exact ⟨q, rfl, .inr (MemoryPort.grantArrived_cases ha)⟩

end Sys2Proof.Machine
end

