-- ==== Sys2Proof/Laws/Rows.lean ====
section
/-! SUPPORT. What a step can do, said once: a row of the table comes about after the steps due before it, and
every one of them is one of the rows named here. An invariant of the part is proved from its rows. -/

namespace Sys2Proof.Machine

/-- The rows that stand for pins of the part and may come about while POR is asserted. -/
inductive PinRow : (State → Option State) → Prop
  | porAssert : PinRow rowPorAssert
  | porEnd (straps : BitVec 2) : PinRow (rowPorEnd straps)
  | sysclr : PinRow rowSysclr
  | sysclrNegate : PinRow rowSysclrNegate
  | busRead (a : Addr) : PinRow (rowBusRead a)
  | busWrite (a : Addr) (ubs lbs : Bool) (data : Word) : PinRow (rowBusWrite a ubs lbs data)
  | faultInputChange (input : FaultInput) (level : Bool) : PinRow (rowFaultInputChange input level)

/-- The rows of the blocks, and the taking of a cycle still presented: none of them while POR is asserted. -/
inductive InnerRow : (State → Option State) → Prop
  | stallExpiry : InnerRow rowStallExpiry
  | heldWritePlaced : InnerRow rowHeldWritePlaced
  | passthroughReadDone : InnerRow rowPassthroughReadDone
  | passthroughWriteDone : InnerRow rowPassthroughWriteDone
  | stagedWrite : InnerRow rowStagedWrite
  | commit : InnerRow rowCommit
  | restartPanel : InnerRow rowRestartPanel
  | stopPanel : InnerRow rowStopPanel
  | clearFaults : InnerRow rowClearFaults
  | release : InnerRow rowRelease
  | startCopy : InnerRow rowStartCopy
  | cancelCopy : InnerRow rowCancelCopy
  | resweepAll : InnerRow rowResweepAll
  | reportNow : InnerRow rowReportNow
  | unknownCommand : InnerRow rowUnknownCommand
  | commitApply : InnerRow rowCommitApply
  | captureItem : InnerRow rowCaptureItem
  | resweepItem : InnerRow rowResweepItem
  | wipeItem : InnerRow rowWipeItem
  | freeEntryWaitEnd : InnerRow rowFreeEntryWaitEnd
  | pictureReadDone : InnerRow rowPictureReadDone
  | cellWordReadDone : InnerRow rowCellWordReadDone
  | writeBackDone : InnerRow rowWriteBackDone
  | wipeWriteDone : InnerRow rowWipeWriteDone
  | sustainCycleStart : InnerRow rowSustainCycleStart
  | phaseBStart : InnerRow rowPhaseBStart
  | addressPulseStart : InnerRow rowAddressPulseStart
  | addressPulseEnd : InnerRow rowAddressPulseEnd
  | rampTick : InnerRow rowRampTick
  | hvokSeen : InnerRow rowHvokSeen
  | hvokLost : InnerRow rowHvokLost
  | hvocSeen : InnerRow rowHvocSeen
  | groupStrike (axis : Axis) (g : Nat) : InnerRow (rowGroupStrike axis g)
  | chargeTimeout : InnerRow rowChargeTimeout
  | restEnd : InnerRow rowRestEnd
  | litDurationExpiry : InnerRow rowLitDurationExpiry
  | refreshDue : InnerRow rowRefreshDue
  | refreshDone : InnerRow rowRefreshDone
  | grantDecision : InnerRow rowGrantDecision
  | reportBlockGrant : InnerRow rowReportBlockGrant
  | reportBlockDone : InnerRow rowReportBlockDone
  | imageGrantDone : InnerRow rowImageGrantDone
  | copyReadDone : InnerRow rowCopyReadDone
  | copyPlaceGiven : InnerRow rowCopyPlaceGiven
  | copyWriteDone : InnerRow rowCopyWriteDone
  | presented : InnerRow takePresented

/-- `P` is kept by every row and by what every event ends with. -/
structure KeptByRows (P : State → Prop) : Prop where
  pin : ∀ {row s t}, PinRow row → P s → row s = some t → P t
  inner : ∀ {row s t}, InnerRow row → s.por = false → P s → row s = some t → P t
  after : ∀ {s}, P s → P s.afterEvent
  pending : ∀ {s q}, P s → P { s with pending := q }

theorem rowHandOver_inner {s t : State} (h : rowHandOver s = some t) : ∃ row, InnerRow row ∧ row s = some t := by
  simp only [rowHandOver, Option.or_eq_some_iff] at h
  rcases h with h | ⟨-, h | ⟨-, h | ⟨-, h | ⟨-, h | ⟨-, h | ⟨-, h | ⟨-, h | ⟨-, h | ⟨-, h | ⟨-, h⟩⟩⟩⟩⟩⟩⟩⟩⟩⟩
  exacts [⟨_, .stagedWrite, h⟩, ⟨_, .commit, h⟩, ⟨_, .restartPanel, h⟩, ⟨_, .stopPanel, h⟩, ⟨_, .clearFaults, h⟩,
    ⟨_, .release, h⟩, ⟨_, .startCopy, h⟩, ⟨_, .cancelCopy, h⟩, ⟨_, .resweepAll, h⟩, ⟨_, .reportNow, h⟩,
    ⟨_, .unknownCommand, h⟩]

theorem rowSeenAtOnce_inner {s t : State} (h : rowSeenAtOnce s = some t) : ∃ row, InnerRow row ∧ row s = some t := by
  unfold rowSeenAtOnce at h
  split at h
  · exact ⟨_, .hvocSeen, h⟩
  · split at h
    · rcases Option.or_eq_some_iff.1 h with h | ⟨-, h⟩
      exacts [⟨_, .hvokSeen, h⟩, ⟨_, .hvokLost, h⟩]
    · split at h
      · exact ⟨_, .groupStrike _ _, h⟩
      · exact ⟨_, .groupStrike _ _, h⟩
      · cases h

theorem dueUrgent_inner {s t : State} (h : dueUrgent s = some t) :
    s.por = false ∧ ∃ row u, InnerRow row ∧ row s = some u ∧ t = u.afterEvent := by
  unfold dueUrgent at h
  split at h
  · cases h
  · rename_i hp
    refine ⟨by simpa using hp, ?_⟩
    obtain ⟨u, hu, rfl⟩ := Option.map_eq_some_iff.1 h
    simp only [Option.or_eq_some_iff] at hu
    rcases hu with hu | ⟨-, hu | ⟨-, hu | ⟨-, hu | ⟨-, hu | ⟨-, hu | ⟨-, hu | ⟨-, hu | ⟨-, hu⟩⟩⟩⟩⟩⟩⟩⟩
    · split at hu
      · exact ⟨_, u, .sustainCycleStart, hu, rfl⟩
      · cases hu
    exacts [⟨_, u, .reportBlockGrant, hu, rfl⟩, ⟨_, u, .heldWritePlaced, hu, rfl⟩, ⟨_, u, .copyPlaceGiven, hu, rfl⟩,
      ⟨_, u, .commitApply, hu, rfl⟩, ⟨_, u, .captureItem, hu, rfl⟩, ⟨_, u, .resweepItem, hu, rfl⟩,
      ⟨_, u, .wipeItem, hu, rfl⟩, ⟨_, u, .freeEntryWaitEnd, hu, rfl⟩]

theorem rowPresentedOrGrant_inner {s t : State} (h : rowPresentedOrGrant s = some t) : ∃ row, InnerRow row ∧ row s = some t := by
  rcases Option.or_eq_some_iff.1 h with h | ⟨-, h⟩
  exacts [⟨_, .presented, h⟩, ⟨_, .grantDecision, h⟩]

theorem dueInstant_inner {s t : State} (h : dueInstant s = some t) :
    s.por = false ∧ ∃ row u, InnerRow row ∧ row s = some u ∧ t = u.afterEvent := by
  unfold dueInstant at h
  rcases Option.or_eq_some_iff.1 h with h | ⟨-, h⟩
  · exact dueUrgent_inner h
  · split at h
    · cases h
    · rename_i hp
      refine ⟨by simpa using hp, ?_⟩
      obtain ⟨u, hu, rfl⟩ := Option.map_eq_some_iff.1 h
      obtain ⟨row, hr, hu⟩ := rowPresentedOrGrant_inner hu
      exact ⟨row, u, hr, hu, rfl⟩

theorem dueAny_inner {s t : State} (h : dueAny s = some t) :
    s.por = false ∧ ∃ row u, InnerRow row ∧ row s = some u ∧ t = u.afterEvent := by
  unfold dueAny at h
  rcases Option.or_eq_some_iff.1 h with h | ⟨-, h⟩
  · exact dueUrgent_inner h
  · split at h
    · cases h
    · rename_i hp
      refine ⟨by simpa using hp, ?_⟩
      obtain ⟨u, hu, rfl⟩ := Option.map_eq_some_iff.1 h
      simp only [Option.or_eq_some_iff] at hu
      rcases hu with hu | ⟨-, hu | ⟨-, hu⟩⟩
      · obtain ⟨row, hr, hu⟩ := rowSeenAtOnce_inner hu; exact ⟨row, u, hr, hu, rfl⟩
      · obtain ⟨row, hr, hu⟩ := rowHandOver_inner hu; exact ⟨row, u, hr, hu, rfl⟩
      · obtain ⟨row, hr, hu⟩ := rowPresentedOrGrant_inner hu; exact ⟨row, u, hr, hu, rfl⟩

/-! ### Settling and coming about -/

theorem settle_of_none {due : State → Option State} {s : State} (n : Nat) (h : due s = none) : settle due n s = s := by
  cases n with
  | zero => rfl
  | succ n => simp [settle, h]

theorem settle_keeps {P : State → Prop} {due : State → Option State} (hd : ∀ {s t}, due s = some t → P s → P t)
    (n : Nat) {s : State} (h : P s) : P (settle due n s) := by
  induction n generalizing s with
  | zero => exact h
  | succ n ih =>
    simp only [settle]
    cases hs : due s with
    | none => exact h
    | some t => exact ih (hd hs h)

/-- With nothing due before it, a row that can come about gives its own next state. -/
theorem occur_of_some {due row : State → Option State} {s u : State} (hd : due s = none) (hr : row s = some u) :
    occur due row s = .next u.afterEvent := by
  simp [occur, settle_of_none _ hd, hr]

/-- With nothing due before it, a row that cannot come about changes nothing. -/
theorem occur_of_none {due row : State → Option State} {s : State} (hd : due s = none) (hr : row s = none) :
    occur due row s = .next s := by
  simp [occur, settle_of_none _ hd, hr]

theorem running_of_not_por {row : State → Option State} {s : State} (h : s.por = false) : running row s = row s := by
  simp [running, h]

theorem occur_keeps {P : State → Prop} {due row : State → Option State} {s t : State}
    (hd : ∀ {s t}, due s = some t → P s → P t) (hr : ∀ {s t}, row s = some t → P s → P t)
    (ha : ∀ {s}, P s → P s.afterEvent) (h : occur due row s = .next t) (hs : P s) : P t := by
  unfold occur at h; dsimp only at h
  split at h
  · rename_i u hu
    cases h
    exact ha (hr hu (settle_keeps hd _ hs))
  · cases h
    exact settle_keeps hd _ hs

/-- Every row answers a next state. -/
theorem occur_next (due row : State → Option State) (s : State) : ∃ t, occur due row s = .next t := by
  unfold occur; dsimp only; split <;> exact ⟨_, rfl⟩

/-- An invariant kept by every row is kept by every command. -/
theorem exec_keeps {P : State → Prop} (K : KeptByRows P) {i : Instr} {s t : State} (h : exec i s = .next t)
    (hs : P s) : P t := by
  have hA : ∀ {s}, P s → P s.afterEvent := K.after
  have hN : ∀ {s t}, dueNone s = some t → P s → P t := by intro s t h; cases h
  have hU : ∀ {s t}, dueUrgent s = some t → P s → P t := by
    intro s t h hs
    obtain ⟨hp, row, u, hr, hu, rfl⟩ := dueUrgent_inner h
    exact K.after (K.inner hr hp hs hu)
  have hS : ∀ {s t}, dueInstant s = some t → P s → P t := by
    intro s t h hs
    obtain ⟨hp, row, u, hr, hu, rfl⟩ := dueInstant_inner h
    exact K.after (K.inner hr hp hs hu)
  have hY : ∀ {s t}, dueAny s = some t → P s → P t := by
    intro s t h hs
    obtain ⟨hp, row, u, hr, hu, rfl⟩ := dueAny_inner h
    exact K.after (K.inner hr hp hs hu)
  have hI : ∀ {row}, InnerRow row → ∀ {s t}, running row s = some t → P s → P t := by
    intro row hr s t h hs
    unfold running at h
    split at h
    · cases h
    · rename_i hp; exact K.inner hr (by simpa using hp) hs h
  have hX : ∀ {row}, PinRow row → ∀ {s t}, row s = some t → P s → P t := fun hr _ _ h hs => K.pin hr hs h
  cases i
  exacts [
    occur_keeps hN (hX .porAssert) hA h hs,
    occur_keeps hN (hX (.porEnd _)) hA h hs,
    occur_keeps hS (hX .sysclr) hA h hs,
    occur_keeps hY (hX .sysclrNegate) hA h hs,
    occur_keeps hY (hX (.busRead _)) hA h hs,
    occur_keeps hY (hX (.busWrite _ _ _ _)) hA h hs,
    occur_keeps hY (hI .stallExpiry) hA h hs,
    occur_keeps hN (hI .heldWritePlaced) hA h hs,
    occur_keeps hY (hI .passthroughReadDone) hA h hs,
    occur_keeps hY (hI .passthroughWriteDone) hA h hs,
    occur_keeps hU (hI .stagedWrite) hA h hs,
    occur_keeps hU (hI .commit) hA h hs,
    occur_keeps hU (hI .restartPanel) hA h hs,
    occur_keeps hU (hI .stopPanel) hA h hs,
    occur_keeps hU (hI .clearFaults) hA h hs,
    occur_keeps hU (hI .release) hA h hs,
    occur_keeps hU (hI .startCopy) hA h hs,
    occur_keeps hU (hI .cancelCopy) hA h hs,
    occur_keeps hU (hI .resweepAll) hA h hs,
    occur_keeps hU (hI .reportNow) hA h hs,
    occur_keeps hU (hI .unknownCommand) hA h hs,
    occur_keeps hN (hI .commitApply) hA h hs,
    occur_keeps hN (hI .captureItem) hA h hs,
    occur_keeps hN (hI .resweepItem) hA h hs,
    occur_keeps hN (hI .wipeItem) hA h hs,
    occur_keeps hN (hI .freeEntryWaitEnd) hA h hs,
    occur_keeps hY (hI .pictureReadDone) hA h hs,
    occur_keeps hY (hI .cellWordReadDone) hA h hs,
    occur_keeps hY (hI .writeBackDone) hA h hs,
    occur_keeps hS (hI .wipeWriteDone) hA h hs,
    occur_keeps hS (hI .sustainCycleStart) hA h hs,
    occur_keeps hY (hI .phaseBStart) hA h hs,
    occur_keeps hY (hI .addressPulseStart) hA h hs,
    occur_keeps hY (hI .addressPulseEnd) hA h hs,
    occur_keeps hY (hI .rampTick) hA h hs,
    occur_keeps hY (hX (.faultInputChange _ _)) hA h hs,
    occur_keeps hS (hI .hvokSeen) hA h hs,
    occur_keeps hS (hI .hvokLost) hA h hs,
    occur_keeps hS (hI .hvocSeen) hA h hs,
    occur_keeps hS (hI (.groupStrike _ _)) hA h hs,
    occur_keeps hS (hI .chargeTimeout) hA h hs,
    occur_keeps hS (hI .restEnd) hA h hs,
    occur_keeps hS (hI .litDurationExpiry) hA h hs,
    occur_keeps hY (hI .refreshDue) hA h hs,
    occur_keeps hY (hI .refreshDone) hA h hs,
    occur_keeps hU (hI .grantDecision) hA h hs,
    occur_keeps hN (hI .reportBlockGrant) hA h hs,
    occur_keeps hY (hI .reportBlockDone) hA h hs,
    occur_keeps hY (hI .imageGrantDone) hA h hs,
    occur_keeps hS (hI .copyReadDone) hA h hs,
    occur_keeps hN (hI .copyPlaceGiven) hA h hs,
    occur_keeps hS (hI .copyWriteDone) hA h hs]

/-- An invariant kept by every row is kept by every step. -/
theorem step_keeps {P : State → Prop} (K : KeptByRows P) {s t : State} (h : step s = .next t) (hs : P s) : P t := by
  unfold step at h
  split at h
  · cases h; exact hs
  · exact exec_keeps K h (K.pending hs)

/-- Every command answers a next state: no command faults or is refused. -/
theorem exec_next (i : Instr) (s : State) : ∃ t, exec i s = .next t := by
  cases i <;> exact occur_next _ _ _

end Sys2Proof.Machine
end

