-- ==== Sys2Proof/WellFormed.lean ====
section
/-! DEFINITION. Which commands name an input the part has. Addresses, data, strobes and strap levels are
pins of a fixed number, so every value of theirs is well formed; a driver group is named by a number, and
the part has groups 0 to 7 of each axis (R95). -/

namespace Sys2Proof

/-- The part has the fault input (R95: GFX0–GFX7 and GFY0–GFY7). -/
def FaultInput.wellFormed : FaultInput → Bool
  | .hvok => true
  | .hvoc => true
  | .group _ g => decide (g < 8)

/-- The command names only inputs and groups the part has. -/
def Instr.wellFormed : Instr → Bool
  | .faultInputChange input _ => input.wellFormed
  | .groupStrike _ g => decide (g < 8)
  | .porAssert | .porEnd _ | .sysclr | .sysclrNegate | .busRead _ | .busWrite _ _ _ _
  | .stallExpiry | .heldWritePlaced | .passthroughReadDone | .passthroughWriteDone
  | .stagedWrite | .commit | .restartPanel | .stopPanel | .clearFaults | .release | .startCopy
  | .cancelCopy | .resweepAll | .reportNow | .unknownCommand | .commitApply | .captureItem
  | .resweepItem | .wipeItem | .freeEntryWaitEnd | .pictureReadDone | .cellWordReadDone
  | .writeBackDone | .wipeWriteDone | .sustainCycleStart | .phaseBStart | .addressPulseStart
  | .addressPulseEnd | .rampTick | .hvokSeen | .hvokLost | .hvocSeen | .chargeTimeout | .restEnd
  | .litDurationExpiry | .refreshDue | .refreshDone | .grantDecision | .reportBlockGrant
  | .reportBlockDone | .imageGrantDone | .copyReadDone | .copyPlaceGiven | .copyWriteDone => true

end Sys2Proof
end

