-- ==== Sys2Proof/Tests/Slice0.lean ====
section
/-! SUPPORT. Tests: ill-formed commands, small cases of the rows with the manual's own numbers, and for every
obligation with hypotheses a state and operands that meet them, each clause at its boundary. -/

namespace Sys2Proof.Tests

open Sys2Proof Sys2Proof.Machine

/- Each kernel evaluation below waits for every theorem before it; one after another they need few threads. -/
set_option Elab.async false

/-! ### Ill-formed commands -/

theorem test_groupStrikeOfGroup8IsIllFormed : (Instr.groupStrike .x 8).wellFormed = false := by decide

theorem test_inputOfGroup8IsIllFormed : (Instr.faultInputChange (.group .y 8) true).wellFormed = false := by decide

theorem test_group7IsWellFormed : (Instr.groupStrike .y 7).wellFormed = true ∧
    (Instr.faultInputChange (.group .x 7) false).wellFormed = true := by decide

theorem test_noWordSpellsACommand : decodeTableWord 16 0x1234 = none ∧
    State.withFetchWord State.reset 16 0x1234 = State.reset := ⟨rfl, rfl⟩

/-! ### Small states -/

/-- The state after reset with a refresh in progress, so that the port has no decision to make. -/
def base : State := { State.reset with port := { MemoryPort.por with current := some .refresh, pendingRefresh := true } }

/-- `base` in panel state `p`. -/
def inState (p : PanelState) : State := { base with seq := { Sequencer.por with panel := p } }

/-- LIT with the sustain running in phase B, the erases and the wipe done. -/
def lit : State := { base with
  seq := { Sequencer.por with
    panel := .lit, hven := true, hvok := true, litTimer := some 3000000, erasesDone := true, wipeDone := true }
  address := { AddressStage.por with running := true, phase := .b, tick := some 1000, globalErases := 8 }
  render := { RenderStage.por with wipePosition := 16384 }
  glass := PanelGlass.erased }

/-- LIT with a render item in hand, so that no item is due. -/
def litBusy : State := { lit with
  render := { lit.render with item := some (.resweep ⟨0, 0⟩ [] [0] .pictureRead) }
  port := { lit.port with renderWaiting := some (.readPicture 0) } }

/-- A captured write of the first picture word. -/
def record : CaptureRecord := ⟨0, .both, 0x1234⟩

/-- `litBusy` with `n` records in the capture list. -/
def holding (n : Nat) : State := { litBusy with capture := { CaptureList.por with records := List.replicate n record } }

/-- CLEARING with a wipe item in hand and `n` global erases issued. -/
def clearing (n : Nat) : State := { base with
  seq := { Sequencer.por with panel := .clearing, hven := true, hvok := true }
  address := { AddressStage.por with running := true, phase := .b, tick := some 1000, globalErases := n }
  render := { RenderStage.por with item := some (.wipe 229376) }
  port := { base.port with renderWaiting := some (.wipe 229376) } }

/-- The grant `g` is in progress. -/
def granted (g : Grant) (s : State) : State := { s with port := { s.port with current := some g, renderWaiting := none } }

/-- A command word with code `code` and argument `arg` has been handed over. -/
def command (code : Byte) (arg : Byte) (s : State) : State :=
  { s with control := { s.control with handOvers := [⟨0, .both, arg ++ code⟩] } }

/-- The write of word `a` is in hand with decision `d`. -/
def writing (a : Addr) (lanes : Option Lanes) (d : GuardDecision) (s : State) : State :=
  { s with passage := { s.passage with
      inHand := some (.write a lanes 0xABCD d), rdy := false
      stallTimer := if d = .held then some 4 else none } }

/-- A fill of two words from word 1000 on, active at its first word with step `step`. -/
def copying (step : CopyStep) (cancelling : Bool) (s : State) : State :=
  { s with copy := ⟨some ⟨.fill, 0, 0, 1000, 1, 1, 2, 7⟩, 0, 0, step, 1, .active, cancelling⟩ }

/-- One order for each of the first `n` columns of line 0. -/
def orders (n : Nat) : List CellOrder := (List.range n).map fun c => ⟨c, 0, .light⟩

/-! ### Rows on fixed values -/

/-- Chapter 6's table of pulses used. -/
theorem test_pulseUsed : fitPulse 64 8 16 = (8, 16) ∧ fitPulse 32 8 16 = (8, 16) ∧ fitPulse 32 16 16 = (16, 12) ∧
    fitPulse 32 24 32 = (20, 8) ∧ fitPulse 40 24 32 = (24, 12) := by decide

/-- R16's example: base 262,143 with pitch 2 leaves height 0. -/
theorem test_heightAgainstMemory :
    (ParamSet.fitHeight { ParamSet.por with base := 262143, pitch := 2 }).height = 0 := by decide

/-- R15's examples. -/
theorem test_widthAgainstPitch :
    (ParamSet.fitWidth { ParamSet.por with pitch := 100, width := 600 }).width = 400 ∧
    (ParamSet.fitWidth { ParamSet.por with format := .dot1, pitch := 10, width := 161 }).width = 160 := by decide

/-- R125's example: the gap words of the span reach the control page. -/
theorem test_copySpanReachesThePage :
    CopyRequest.passes ⟨.fill, 0, 0, 64000, 1024, 3, 4, 0⟩ ParamSet.por 0 = false ∧
    CopyRequest.passes ⟨.fill, 0, 0, 64000, 1024, 1, 4, 0⟩ ParamSet.por 0 = true := by decide

/-- The command words written in chapter 10: code in the LOW lane, argument in the HIGH lane. -/
theorem test_commandWord : (command 5 0x10 State.reset).control.handOvers.map (fun h => (h.isCommand, lowByte h.data,
    highByte h.data)) = [(true, 5, 0x10)] := by decide

/-- A write carries the lanes of its strobes (R53). -/
theorem test_lanes : lanesOf true true = some .both ∧ lanesOf true false = some .high ∧ lanesOf false true = some .low ∧
    lanesOf false false = none := by decide

theorem test_mergedLanes : mergeLanes .high 0x1122 0xAABB = 0xAA22 ∧ mergeLanes .low 0x1122 0xAABB = 0x11BB ∧
    carriedData .high 0xAABB = 0xAA00 := by decide

/-- An identical step maps cell for cell; a step of 4 shows each pixel four times (R9). -/
theorem test_inverseRange : inverseRange 0 16 45 45 = some (45, 45) ∧ inverseRange 10 4 11 11 = some (4, 7) ∧
    inverseRange 10 4 9 9 = none ∧ inverseRange 0 64 1 1 = none := by decide

/-- The cell plane of block 14 and the cell word of cell (45, 68) (R5). -/
theorem test_cellAddress : ParamSet.por.cellAddress ⟨68, 2⟩ = 231554 := by decide

/-- The memory keeps its keys rising, and a later write replaces an earlier one. -/
theorem test_memory : Memory.set (Memory.set (Memory.set [] 5 1) 3 2) 5 9 = [(3, 2), (5, 9)] := by decide

/-- The report record after reset (R137): block 0 of the standing codes. -/
theorem test_recordAfterReset : State.reset.reportWords 1 =
    [1, 0, 0, 0, 0, 0, 0, 0, 0, 0, 0, 0, 0, 0, 0, 0] := by decide +kernel

/-- RESTART PANEL in DARK takes the sequencer to CHARGING with HVEN on. -/
theorem test_restart : (rowRestartPanel (command 2 0 State.reset)).map (fun t => (t.seq.panel, t.seq.hven,
    t.seq.chargeTimer, t.control.lastOutcome)) = some (.charging, true, some 60000, .done) := by decide

/-- The fifth recovery bars the panel (R102). -/
theorem test_fifthRecovery : (State.recover { inState .lit with seq := { (inState .lit).seq with
    recoveryCount := 4 } }).seq.panel = .barred := by decide +kernel

/-- The second strike takes a group out of service (R108). -/
theorem test_strikes : (((Sequencer.por.strike .y 2).strikeY, (Sequencer.por.strike .y 2).outY),
    ((Sequencer.por.strike .y 2).strike .y 2).strikeY, ((Sequencer.por.strike .y 2).strike .y 2).outY) =
    ((4, 0), 0, 4) := by decide

/-- A change arrival coalesces with the waiting order (R35). -/
theorem test_coalescing : changeArrival (orders 3) 1 0 false = [⟨0, 0, .light⟩, ⟨2, 0, .light⟩] := by decide

/-- At the end of a grant refresh is granted before the passage, the passage before the image (R112). -/
theorem test_ranks :
    (MemoryPort.grantHighest { MemoryPort.por with refreshWaiting := true, passWaiting := true }).current =
      some .refresh ∧
    (MemoryPort.grantHighest { MemoryPort.por with passWaiting := true }).current = some .passthrough := by decide

/-- The first step after reset finds the image granted, the port having been idle (R122). -/
theorem test_imageGrantedAtOnce : (dueAny State.reset).map (·.port.current) = some (some (.image 1)) := by
  decide +kernel

/-- The standing set of the worked case of section 1.7. -/
def case17 : ParamSet := { ParamSet.por with
  base := 4096, pitch := 160, width := 640, originX := 64, originY := 16, stepX := 20, stepY := 20 }

/-- Section 1.7: the rectangles of the write to word 20,286 by lanes, and the lines under overflow. -/
theorem test_case17 : case17.rectangle ⟨20286, .both, 0x38F0⟩ = some ⟨68, 68, 45, 47⟩ ∧
    case17.rectangle ⟨20286, .high, 0x3800⟩ = some ⟨68, 68, 45, 46⟩ ∧
    case17.rectangle ⟨20286, .low, 0xF0⟩ = some ⟨68, 68, 47, 47⟩ ∧
    case17.overflowLines 20286 .both = some (68, 68) ∧ case17.overflowLines 20126 .both = none := by decide

/-- Section 1.8: the rectangle of a HIGH lane write under magnification, and what line 2, word 2 samples. -/
theorem test_case18 :
    let p := { ParamSet.por with format := .dot1, pitch := 32, height := 512, stepX := 8, stepY := 8 }
    p.rectangle ⟨33, .high, 0xB100⟩ = some ⟨2, 3, 32, 47⟩ ∧ p.sampledWords ⟨2, 2⟩ = [33] := by decide

/-- Section 3.7: targets 0, 1 and 1 against a cell word with bits 2 and 1 set. -/
theorem test_case37 : compareTargets 68 [(45, false), (46, true), (47, true)]
    [⟨45, 68, .light⟩, ⟨300, 12, .light⟩, ⟨301, 12, .light⟩, ⟨50, 68, .quench⟩] 0b110 =
    ([⟨300, 12, .light⟩, ⟨301, 12, .light⟩, ⟨50, 68, .quench⟩, ⟨47, 68, .light⟩], 0b011) := by decide

/-- Section 5.7: the search from line 150 passes line 200, which is held, and comes to line 511. -/
theorem test_case57 :
    let marked := (StaleSet.clear.mark (fun l => decide (l = 3 ∨ l = 511)) 0).mark (fun l => decide (l = 200)) 2
    StaleSet.offer { marked with posLine := 150 } = some ⟨511, 0⟩ ∧ marked.count = 3 := by decide +kernel

/-- Section 6.9 at slot 1, with a gather window of 4 and of 32. -/
theorem test_case69 :
    let q := [CellOrder.mk 10 5 .light, ⟨200, 7, .light⟩, ⟨11, 5, .light⟩, ⟨12, 5, .quench⟩, ⟨13, 5, .light⟩,
      ⟨400, 5, .light⟩]
    let burst (g : Nat) : List Nat × Nat × BitVec 32 × Word :=
      let t := State.takeBurst { lit with
        queue := q
        standing := { ParamSet.por with gatherWindow := g }
        seq := { lit.seq with outX := 0x40 } } ⟨10, 5, .light⟩
      (t.columnSelect, t.queue.length, t.address.cellsAddressed, t.address.droppedOrders)
    burst 4 = ([10, 11], 4, 2, 0) ∧ burst 32 = ([10, 11, 13], 2, 3, 1) := by decide +kernel

/-! ### The hypotheses of the obligations are met

One theorem for each obligation that has hypotheses, under its name. -/

theorem witness_StepRunsTheFrontCommand :
    ({ base with pending := [.rampTick] } : State).pending = .rampTick :: [] := rfl

theorem witness_TheQueueAndMemoryAreLeftAlone : base.pending = [] ∧
    Instr.rampTick ∉ [.porAssert, .passthroughWriteDone, .writeBackDone, .wipeWriteDone, .reportBlockDone,
      .imageGrantDone, .copyWriteDone] ∧ ∃ t, exec .rampTick lit = .next t :=
  ⟨rfl, by decide, exec_next _ _⟩

theorem witness_AnEventTakenTooLateHasNoEffect : base.ReadyInstant ∧ base.seq.panel = .dark ∧
    (inState .resting).ReadyInstant := by
  simp only [State.ReadyInstant]; decide +kernel

theorem witness_PorAssertAbandonsAndReleases : base.por = false ∧
    ∃ s : State, s.por = true ∧ s.passage.inHand = none ∧ s.sysclr = false ∧
      ({ s with sysclr := true } : State).sysclr = true ∧ Instr.rampTick ≠ .sysclr ∧ Instr.rampTick ≠ .sysclrNegate :=
  ⟨rfl, { base with por := true }, by decide⟩

theorem witness_PorEndGivesEveryBlockItsResetState : ({ base with por := true } : State).por = true := rfl

theorem witness_SysclrEntersDarkAndAbortsTheCopy :
    (State.ReadyInstant litBusy ∧ litBusy.sysclr = false ∧ litBusy.copy.outcome ≠ .active) ∧
    ∃ s : State, s.ReadyInstant ∧ s.sysclr = false ∧ s.copy.outcome = .active ∧
      s.port.current = some (.copy (.write 1000 7) true) := by
  refine ⟨by simp only [State.ReadyInstant]; decide +kernel,
    granted (.copy (.write 1000 7) true) (copying (.destWrite 7 .unplaced) false litBusy), ?_⟩
  simp only [State.ReadyInstant]; decide +kernel

theorem witness_CyclesWaitWhileSysclrIsAsserted :
    (∀ cycle ∈ [PresentedCycle.read 262143, .write 0 true true 5],
      ({ base with sysclr := true, passage := { Passage.por with presented := some cycle } } : State).Ready ∧
      dueUrgent { base with passage := { Passage.por with presented := some cycle } } = none ∧
      rowSeenAtOnce { base with passage := { Passage.por with presented := some cycle } } = none) ∧
    base.sysclr = false ∧ base.por = false ∧ Passage.por.inHand = none ∧ base.control.handOvers = [] ∧
    base.port.current ≠ none := by
  simp only [State.Ready]; decide +kernel

theorem witness_AReadPassesThrough :
    (State.Ready litBusy ∧ litBusy.sysclr = false ∧ litBusy.passage.inHand = none) ∧
    ∃ s : State, s.Ready ∧ s.port.current = some .passthrough ∧ s.passage.inHand = some (.read 262143) := by
  refine ⟨by simp only [State.Ready]; decide +kernel,
    granted .passthrough { base with passage := { Passage.por with inHand := some (.read 262143) } }, ?_⟩
  simp only [State.Ready]; decide +kernel

/-- The first and the last picture word need a place, the word after it does not; fifteen records leave a place
free, sixteen none; a stall limit of 0. -/
theorem witness_AWriteReceivesItsGuardDecision :
    ((holding 15).Ready ∧ (holding 15).sysclr = false ∧ (holding 15).passage.inHand = none ∧
      (holding 15).seq.panel = .lit ∧ (holding 15).capture.records.length + (holding 15).capture.reservations < 16 ∧
      (holding 15).standing.inPicture 0 = true ∧ (holding 15).standing.inPicture 61439 = true ∧
      (holding 15).standing.inPicture 61440 = false) ∧
    ((holding 16).Ready ∧ ¬((holding 16).capture.records.length + (holding 16).capture.reservations < 16) ∧
      (holding 16).standing.stallLimit ≠ 0) ∧
    ∃ s : State, s.Ready ∧ s.sysclr = false ∧ s.passage.inHand = none ∧ s.seq.panel = .lit ∧
      ¬(s.capture.records.length + s.capture.reservations < 16) ∧ s.standing.stallLimit = 0 := by
  refine ⟨by simp only [State.Ready]; decide +kernel, by simp only [State.Ready]; decide +kernel,
    { holding 16 with standing := { ParamSet.por with stallLimit := 0 } }, ?_⟩
  simp only [State.Ready]; decide +kernel

theorem witness_AHeldWriteIsSettledOnce :
    (∃ s : State, s.passage.inHand = some (.write 0 (some .both) 0xABCD .held) ∧ s.por = false ∧
      s.capture.records.length + s.capture.reservations = 15) ∧
    (∃ s : State, s.passage.inHand = some (.write 0 (some .both) 0xABCD .held) ∧ s.Ready ∧
      s.passage.stallTimer ≠ none) ∧
    ∃ s : State, s.Ready ∧ s.passage.inHand = some (.write 0 (some .both) 0xABCD .placed) := by
  refine ⟨⟨writing 0 (some .both) .held (holding 15), by decide +kernel⟩,
    ⟨writing 0 (some .both) .held (holding 16), ?_⟩, ⟨writing 0 (some .both) .placed (holding 2), ?_⟩⟩ <;>
  simp only [State.Ready] <;> decide +kernel

/-- No lane; the first and the last word of the cell plane; the words beside it. -/
theorem witness_ABusWriteCompletes :
    (∀ x ∈ [(0#18, none), (229376#18, some Lanes.low), (245759#18, some .both), (229375#18, some .high),
        (245760#18, some .both)],
      ∃ s : State, s.Ready ∧ s.port.current = some .passthrough ∧
        s.passage.inHand = some (.write x.1 x.2 0xABCD .unplaced)) ∧
    base.standing.inPlane 229376 = true ∧ base.standing.inPlane 245759 = true ∧
    base.standing.inPlane 229375 = false ∧ base.standing.inPlane 245760 = false := by
  refine ⟨fun x hx => ⟨granted .passthrough (writing x.1 x.2 .unplaced base), ?_, rfl, rfl⟩, by decide⟩
  simp only [State.Ready]
  revert x
  decide +kernel

/-- The standing set after POR is valid for every strap setting. -/
theorem porIsValid (straps : BitVec 2) : ParamSet.por.Valid straps := by
  refine ⟨by decide, by decide, by decide, by decide, by decide, by decide, by decide, by decide, by decide, by decide,
    by decide, by decide, ?_⟩
  revert straps
  decide

/-- The first and the last word of the control page and of the picture, a word of neither, a padding word. -/
theorem witness_ALandedWriteHasTheOutcomeOfTheTable :
    (inControlPage 0 65280 = true ∧ inControlPage 0 65535 = true ∧ inControlPage 0 65279 = false ∧
      inControlPage 0 65536 = false ∧ ParamSet.por.inPlane 65280 = false ∧ ParamSet.por.inPlane 65535 = false) ∧
    (ParamSet.por.inPicture 61440 = false ∧ lit.seq.panel = .lit ∧ base.seq.panel ≠ .lit) ∧
    (ParamSet.por.inPicture 0 = true ∧ ParamSet.por.inPicture 61439 = true ∧ inControlPage 0 61439 = false ∧
      ParamSet.por.inPlane 61439 = false) ∧
    ((holding 15).capture.records.length + (holding 15).capture.reservations < 16 ∧
      ¬((holding 16).capture.records.length + (holding 16).capture.reservations < 16)) ∧
    ParamSet.por.overflowLines 0 .both = some (0, 0) ∧
    ParamSet.overflowLines { ParamSet.por with width := 508 } 127 .both = none ∧ ParamSet.por.Valid 0 := by
  refine ⟨by decide +kernel, by decide +kernel, by decide +kernel, by decide +kernel, by decide +kernel,
    by decide +kernel, porIsValid 0⟩

theorem witness_ABlockStandsInMemory : (0#18 ≠ 262143#18) ∧ 262143 + [(7 : Word)].length ≤ 262144 ∧ 0 < [(7 : Word)].length ∧
    (262142#18).toNat < 262143 := by decide

/-- The offsets on both sides of every range of staged words, and offset 0 with no command. -/
theorem witness_AStagedWriteReplacesTheCarriedLanes :
    ∀ h ∈ [HandOver.mk 0 .high 0x4401, ⟨0, .both, 0x4400⟩, ⟨1, .both, 5⟩, ⟨29, .low, 5⟩, ⟨30, .both, 5⟩, ⟨63, .both, 5⟩,
        ⟨64, .high, 5⟩, ⟨95, .both, 5⟩, ⟨96, .both, 5⟩, ⟨105, .both, 5⟩, ⟨106, .both, 5⟩],
      ({ base with control := { ControlBlock.por with handOvers := [h] } } : State).ReadyUrgent ∧
        ¬(h.offset = 0 ∧ h.lanes.hasLow = true ∧ lowByte h.data ≠ 0) := by
  simp only [State.ReadyUrgent]; decide +kernel

theorem witness_EveryCommandTakeIsRecorded :
    ∀ code ∈ [10#8, 255#8], (command code 0 base).ReadyUrgent ∧ 10 ≤ code.toNat ∧
      (command code 0 base).control.handOvers = [⟨0, .both, 0#8 ++ code⟩] ∧
      HandOver.isCommand ⟨0, .both, 0#8 ++ code⟩ = true ∧ lowByte (0#8 ++ code) = code := by
  simp only [State.ReadyUrgent]; decide +kernel

/-- COMMIT handed over with nothing waiting and a set that passes, with one that does not (its cell plane would
cover the control page), and with a commit waiting. -/
theorem witness_CommitChecksACandidate :
    ((command 1 0 litBusy).ReadyUrgent ∧ (command 1 0 litBusy).control.checked = none ∧
      (command 1 0 litBusy).control.candidatePasses 0 = true) ∧
    (∃ s : State, s.ReadyUrgent ∧ s.control.handOvers = [⟨0, .both, 1⟩] ∧ s.control.checked = none ∧
      s.control.candidatePasses s.straps = false) ∧
    ∃ s : State, s.ReadyUrgent ∧ s.control.handOvers = [⟨0, .both, 1⟩] ∧ s.control.checked = some ParamSet.por := by
  refine ⟨by simp only [State.ReadyUrgent]; decide +kernel,
    ⟨command 1 0 { litBusy with control := ControlBlock.por.latch ⟨28, .both, 3⟩ }, ?_⟩,
    ⟨command 1 0 { litBusy with control := { ControlBlock.por with checked := some ParamSet.por } }, ?_⟩⟩ <;>
  simp only [State.ReadyUrgent] <;> decide +kernel

/-- The set after the first step of a COMMIT, with some words staged over those of POR. -/
def staged (words : List (Nat × Nat)) : ParamSet :=
  (words.foldl (fun c x => c.latch ⟨x.1, .both, BitVec.ofNat 16 x.2⟩) ControlBlock.por).clamped

/-- A width just at and just above the pitch's, a height just inside and just beyond memory. -/
theorem witness_CommitStepsFitAndRefuse :
    (ControlBlock.por.clamped.width = ControlBlock.por.clamped.pitch * 4) ∧
    ((staged [(5, 513)]).format = .tone4 ∧ (staged [(5, 513)]).width > (staged [(5, 513)]).pitch * 4) ∧
    (∀ l ∈ [([(2, 3), (1, 4096)], 262144), ([(2, 3), (1, 4097)], 262145)],
      (staged l.1).base + (staged l.1).height * (staged l.1).pitch = l.2) ∧
    (command 1 0 litBusy).ReadyUrgent ∧ HandOver.isCommand ⟨0, .both, 1⟩ = true ∧ litBusy.control.checked = none := by
  simp only [State.ReadyUrgent]; decide +kernel

theorem witness_PanelCommandsActBySequencerState :
    ∀ s ∈ [inState .dark, inState .charging, clearing 3, litBusy, inState .resting, inState .barred],
      (command 2 0 s).ReadyUrgent ∧ (command 3 0 s).ReadyUrgent := by
  simp only [State.ReadyUrgent]; decide +kernel

theorem witness_ClearFaultsKeepsOnlyPresentConditions :
    ∀ s ∈ [inState .dark, litBusy], (command 4 0 s).ReadyUrgent ∧ HandOver.isCommand ⟨0, .both, 4⟩ = true := by
  simp only [State.ReadyUrgent]; decide +kernel

theorem witness_ReleaseReportNowAndResweepAll :
    ((command 5 63 litBusy).ReadyUrgent ∧ (command 9 0 litBusy).ReadyUrgent) ∧
    (command 8 0 litBusy).ReadyUrgent ∧ litBusy.seq.panel = .lit ∧ (command 8 0 base).ReadyUrgent ∧
    base.seq.panel ≠ .lit := by
  simp only [State.ReadyUrgent]; decide +kernel

/-- A checked set with the plane where it is, and one with the plane moved, in LIT. -/
theorem witness_AnAppliedCommitReachesEveryOwner :
    ∀ new ∈ [ParamSet.por, { ParamSet.por with planeBlock := 13 }],
      ∃ s : State, s.por = false ∧ s.render.item = none ∧ s.control.checked = some new ∧ s.seq.panel = .lit ∧
        s.standing.planeBlock = 14 :=
  fun new _ => ⟨{ lit with control := { ControlBlock.por with checked := some new } }, rfl, rfl, rfl, rfl, rfl⟩

/-- LIT with a record and a stale line, at a count of 7 and of 8; with only the one or the other. -/
theorem witness_TheRenderStageChoosesItsItem :
    ∀ n ∈ [7, 8], ∃ s : State, s.por = false ∧ s.seq.panel = .lit ∧ s.render.item = none ∧ s.control.checked = none ∧
      s.port.rendering = false ∧ s.capture.records = [record] ∧ s.render.captureCount = n ∧
      s.stale.offer = some ⟨511, 0⟩ ∧ lit.stale.offer = none ∧
      ({ s with capture := CaptureList.por } : State).capture.records = [] := by
  intro n hn
  refine ⟨{ lit with
    capture := { CaptureList.por with records := [record] }
    render := { lit.render with captureCount := n }
    stale := StaleSet.clear.mark (fun l => decide (l = 511)) 0 }, ?_⟩
  revert n
  decide +kernel

/-- 240 and 241 orders; a cell word that samples picture words and one of the margin. -/
theorem witness_ACellWordBeginsWhenTheQueueHasRoom : ParamSet.por.Valid 0 ∧
    (orders 240).length ≤ 240 ∧ 240 < (orders 241).length ∧
    ParamSet.por.sampledWords ⟨480, 0⟩ = [] ∧ ParamSet.por.sampledWords ⟨479, 31⟩ = [61436, 61437, 61438, 61439] ∧
    ParamSet.por.recordWords ⟨61439, .low, 0⟩ = [⟨479, 31⟩] ∧ ParamSet.por.rectangle ⟨61440, .low, 0⟩ = none ∧
    ∃ s : State, s.por = false ∧ s.queue.length = 240 ∧
      s.render.item = some (.resweep ⟨479, 31⟩ [] [61436, 61437, 61438, 61439] .freeWait) := by
  refine ⟨porIsValid 0, by decide +kernel, by decide +kernel, by decide +kernel, by decide +kernel, by decide +kernel,
    by decide +kernel, { lit with
      queue := orders 240
      render := { lit.render with item := some (.resweep ⟨479, 31⟩ [] [61436, 61437, 61438, 61439] .freeWait) } }, ?_⟩
  decide +kernel

/-- A line in hand; no line in hand with a servable line behind the position, and with only a held line. -/
theorem witness_TheStaleSetMarksAndMovesOn :
    (({ StaleSet.clear with posWord := 31, posLine := 511 } : StaleSet).offer = some ⟨511, 31⟩) ∧
    (({ StaleSet.clear.mark (fun l => decide (l = 3)) 0 with posLine := 4 } : StaleSet).offer = some ⟨3, 0⟩) ∧
    (StaleSet.clear.mark (fun l => decide (l = 3)) 1).offer = none ∧ StaleSet.clear.posLine < 512 := by
  decide +kernel

/-- A free render stage in CLEARING at wipe position 16,383; the last wipe write, with and without the erases done. -/
theorem witness_TheWipeZeroesThePlaneWordByWord :
    (∃ s : State, s.por = false ∧ s.seq.panel = .clearing ∧ s.render.item = none ∧ s.control.checked = none ∧
      s.port.rendering = false ∧ s.render.wipePosition = 16383) ∧
    (∀ e ∈ [false, true], ∃ s : State, s.ReadyInstant ∧ s.port.current = some (.render (.wipe 245759) true) ∧
      s.render.wipePosition + 1 = 16384 ∧ s.seq.panel = .clearing ∧ s.seq.erasesDone = e) ∧
    ∃ s : State, s.ReadyInstant ∧ s.port.current = some (.render (.wipe 229376) false) := by
  refine ⟨⟨{ inState .clearing with render := { RenderStage.por with wipePosition := 16383 } }, by decide⟩,
    fun e he => ⟨granted (.render (.wipe 245759) true) { clearing 8 with
      seq := { (clearing 8).seq with erasesDone := e }
      render := { RenderStage.por with item := some (.wipe 245759), wipePosition := 16383 } }, ?_⟩,
    granted (.render (.wipe 229376) false) base, ?_⟩
  · simp only [State.ReadyInstant]; revert e; decide +kernel
  · simp only [State.ReadyInstant]; decide +kernel

theorem witness_PictureReadsAndWriteBacksComplete :
    (∀ todo ∈ [[5#18], [5#18, 6]], ∃ s : State, s.Ready ∧ s.port.current = some (.render (.readPicture 5) true) ∧
      s.render.item = some (.resweep ⟨0, 0⟩ [] todo .pictureRead)) ∧
    (∀ i ∈ [RenderItem.capture record ⟨0, 0⟩ [⟨0, 1⟩] (.writeBack 9), .resweep ⟨0, 0⟩ [] [] (.writeBack 9)],
      ∃ s : State, s.Ready ∧ s.port.current = some (.render (.writeBack 229376 9) true) ∧ s.render.item = some i) ∧
    (granted (.render (.readPicture 5) false) base).Ready ∧
    (granted (.render (.writeBack 229376 9) false) base).Ready := by
  refine ⟨fun todo ht => ⟨granted (.render (.readPicture 5) true) { litBusy with
      render := { litBusy.render with item := some (.resweep ⟨0, 0⟩ [] todo .pictureRead) } }, ?_⟩,
    fun i hi => ⟨granted (.render (.writeBack 229376 9) true) { litBusy with
      render := { litBusy.render with item := some i } }, ?_⟩, ?_, ?_⟩
  · simp only [State.Ready]; revert todo; decide +kernel
  · simp only [State.Ready]; revert i; decide +kernel
  · simp only [State.Ready]; decide +kernel
  · simp only [State.Ready]; decide +kernel

/-- The first cell of the panel sampled from a word read; a cell of the margin; a record's rectangle, and none. -/
theorem witness_theCellsOfAnItem :
    ([(0#18, 0xF000#16)].map (·.1)).Nodup ∧ (0#18, 0xF000#16) ∈ [(0#18, 0xF000#16)] ∧
    (RenderItem.resweep ⟨0, 0⟩ [(0, 0xF000)] [] .cellRead).targets ParamSet.por =
      (List.range 16).map (fun cx => (cx, decide (cx = 0))) ∧
    ParamSet.por.rectangle record ≠ none ∧ ParamSet.por.rectangle ⟨61440, .low, 0⟩ = none := by decide

/-- A record of tone 15 in the first word lights cells of a dark cell word; one of tone 0 changes nothing. -/
theorem witness_ACellWordIsComparedWithItsTargets :
    ∀ x ∈ [(0xFFFF, false), (0, true)],
      ∃ s : State, s.Ready ∧ s.port.current = some (.render (.readCell 229376) true) ∧
        s.render.item = some (.capture ⟨0, .both, BitVec.ofNat 16 x.1⟩ ⟨0, 0⟩ [] .cellRead) ∧
        decide ((compareTargets 0 (RenderItem.targets s.standing (.capture ⟨0, .both, BitVec.ofNat 16 x.1⟩ ⟨0, 0⟩ [] .cellRead)) s.queue
          (s.readWord 229376)).2 = s.readWord 229376) = x.2 := by
  intro x hx
  refine ⟨granted (.render (.readCell 229376) true) { litBusy.writeWord 229376 .both 0 with
      render := { litBusy.render with item := some (.capture ⟨0, .both, BitVec.ofNat 16 x.1⟩ ⟨0, 0⟩ [] .cellRead) } }, ?_⟩
  simp only [State.Ready]
  revert x
  decide +kernel

theorem witness_TheComparisonSetsEvaluatedBits :
    (((CellWord.mk 3 31).columns.map fun cx => (cx, true)).map fun x => x.1 % 16).Nodup := by decide

theorem witness_AChangeArrivalCoalescesOrJoins :
    ((orders 3).map fun o => (o.column, o.line)).Nodup ∧ (∃ o ∈ orders 3, o.column = 1 ∧ o.line = 0) ∧
    ∀ o ∈ orders 3, ¬(o.column = 511 ∧ o.line = 511) := by decide

/-- A gather window of 1 and of 32. -/
theorem witness_ASlotInLitTakesABurst :
    ∀ g ∈ [1, 32], ∃ s : State, s.ReadyInstant ∧ s.address.running = true ∧ s.address.phase ≠ .a ∧ s.seq.panel = .lit ∧
      s.queue = ⟨0, 0, .light⟩ :: [⟨1, 0, .light⟩, ⟨2, 0, .light⟩] ∧ s.standing.gatherWindow = g ∧
      1 ≤ s.standing.gatherWindow := by
  intro g hg
  refine ⟨{ lit with queue := orders 3, standing := { ParamSet.por with gatherWindow := g } }, ?_⟩
  simp only [State.ReadyInstant]
  revert g
  decide +kernel

theorem witness_ASlotInClearingErasesThePanel :
    (∀ n ∈ [6, 7, 8], (clearing n).ReadyInstant ∧ (clearing n).address.running = true ∧
      (clearing n).address.phase ≠ .a ∧ (clearing n).seq.panel = .clearing ∧ (clearing n).address.globalErases = n ∧
      (clearing n).seq.wipeDone = false) ∧
    (∃ s : State, s.ReadyInstant ∧ s.address.running = true ∧ s.address.phase ≠ .a ∧ s.seq.panel = .clearing ∧
      s.address.globalErases = 7 ∧ s.seq.wipeDone = true) ∧
    (State.ReadyInstant lit ∧ lit.address.phase ≠ .a ∧ lit.queue = []) := by
  refine ⟨by simp only [State.ReadyInstant]; decide +kernel,
    ⟨{ clearing 7 with
      seq := { (clearing 7).seq with wipeDone := true }
      render := { RenderStage.por with wipePosition := 16384 } }, ?_⟩, ?_⟩ <;>
  simp only [State.ReadyInstant] <;> decide +kernel

/-- The sustain just started at an entry to CLEARING. -/
theorem witness_firstCycle : ∃ s : State, s.por = false ∧ s.address.running = true ∧ s.address.phase = .notBegun ∧
    s.seq.panel = .clearing ∧ s.address.globalErases < 7 :=
  ⟨{ clearing 0 with address := { (clearing 0).address with phase := .notBegun } }, by decide⟩

/-- The pulse of a burst of one column. -/
def pulse (on : Bool) : Pulse := ⟨.burst 0 .light [0], 8, 16, on⟩

theorem witness_PhasesPulsesAndRampTicks :
    (∀ p ∈ [none, some (pulse false), some (pulse true)],
      ({ lit with address := { lit.address with phase := .a, pulse := p } } : State).Ready) ∧
    State.Ready lit ∧ lit.address.running = true ∧ lit.address.tick ≠ none ∧ base.Ready ∧
    base.address.running = false := by
  simp only [State.Ready]; decide +kernel

/-- The corners of the permitted settings. -/
theorem witness_ThePulseUsedFitsPhaseA :
    ∀ A ∈ [32, 128], ∀ D ∈ [4, 24], ∀ W ∈ [8, 32], 32 ≤ A ∧ A ≤ 128 ∧ 4 ≤ D ∧ D ≤ 24 ∧ 8 ≤ W ∧ W ≤ 32 := by decide

theorem witness_AFaultInputStartsOrStopsItsDebounce : (State.Ready litBusy ∧ litBusy.seq.hvok ≠ false ∧
    litBusy.seq.hvoc ≠ true ∧ litBusy.seq.gfx.getLsbD 0 ≠ true ∧ litBusy.seq.gfx.getLsbD 7 ≠ true ∧
    litBusy.seq.gfy.getLsbD 7 ≠ true) ∧ ({ litBusy with por := true } : State).por = true := by
  simp only [State.Ready]; decide +kernel

/-- `s` with the debounce timers of HVOK, HVOC and group X7 running. -/
def debouncing (s : State) : State := { s with seq := { s.seq with
  debounceHvok := some 2, debounceHvoc := some 2, debounceX := s.seq.debounceX.setIfInBounds 7 (some 2) } }

theorem witness_HvokSeenEntersClearing : (debouncing (inState .charging)).ReadyInstant ∧
    (debouncing (inState .charging)).seq.panel = .charging ∧
    (debouncing (inState .charging)).seq.debounceHvok ≠ none := by
  simp only [State.ReadyInstant]; decide +kernel

/-- Group X7 at its first and at its second strike. -/
theorem witness_AFaultBeginsARecovery :
    (State.ReadyInstant (debouncing litBusy) ∧ (debouncing litBusy).seq.debounceHvok ≠ none ∧
      (debouncing litBusy).seq.debounceHvoc ≠ none ∧ ((debouncing litBusy).standing.mask .x).getLsbD 7 = false ∧
      ((debouncing litBusy).seq.outSet .x).getLsbD 7 = false ∧ (debouncing litBusy).seq.groupTimer .x 7 ≠ none ∧
      ((debouncing litBusy).seq.strikeSet .x).getLsbD 7 = false ∧ litBusy.seq.recoveryCount + 1 < 5) ∧
    (∃ s : State, s.ReadyInstant ∧ s.seq.panel = .lit ∧ (s.seq.strikeSet .x).getLsbD 7 = true ∧
      s.seq.recoveryCount + 1 = 5 ∧ s.seq.groupTimer .x 7 ≠ none) ∧
    ∃ s : State, s.ReadyInstant ∧ s.seq.panel = .charging ∧ s.seq.chargeTimer ≠ none := by
  refine ⟨by simp only [State.ReadyInstant]; decide +kernel,
    ⟨debouncing { litBusy with seq := { litBusy.seq with strikeX := 128, recoveryCount := 4 } }, ?_⟩,
    ⟨{ base with seq := { Sequencer.por with panel := .charging, chargeTimer := some 60000 } }, ?_⟩⟩ <;>
  simp only [State.ReadyInstant] <;> decide +kernel

/-- RESTING with seven groups of each axis out, with all X groups out; LIT with its timer. -/
theorem witness_TheRestEndsAndTheCountIsForgiven :
    (∀ x ∈ [(0x7F, 0xFE), (0xFF, 0)], ∃ s : State, s.ReadyInstant ∧ s.seq.panel = .resting ∧
      s.seq.restTimer ≠ none ∧ s.seq.outX = BitVec.ofNat 8 x.1 ∧ s.seq.outY = BitVec.ofNat 8 x.2) ∧
    State.ReadyInstant litBusy ∧ litBusy.seq.litTimer ≠ none := by
  refine ⟨fun x hx => ⟨{ base with seq := { Sequencer.por with
    panel := .resting, restTimer := some 120000, outX := BitVec.ofNat 8 x.1, outY := BitVec.ofNat 8 x.2 } }, ?_⟩, ?_⟩
  · simp only [State.ReadyInstant]; revert x; decide +kernel
  · simp only [State.ReadyInstant]; decide +kernel

theorem witness_RefreshFallsDueAndAdvancesTheRow : base.Ready ∧ base.port.refreshTimer ≠ none ∧
    (granted .refresh base).Ready := by
  simp only [State.Ready]; decide +kernel

theorem witness_TheHighestRankIsGranted :
    ((granted .refresh litBusy).ReadyUrgent ∧ (granted .refresh litBusy).port.current ≠ none) ∧
    (∀ p ∈ [{ MemoryPort.por with refreshWaiting := true }, { MemoryPort.por with passWaiting := true },
        MemoryPort.por, { MemoryPort.por with reportWaiting := some .block },
        { MemoryPort.por with reportWaiting := none, renderWaiting := some (.readPicture 0) },
        { MemoryPort.por with reportWaiting := none, copyWaiting := some (.read 0) },
        { MemoryPort.por with reportWaiting := none }],
      ∀ deciding ∈ [false, true],
        ({ base with port := { p with deciding := deciding } } : State).ReadyUrgent ∧ p.current = none ∧
        ({ base with port := { p with deciding := deciding } } : State).passage.presented = none ∧
        rowSeenAtOnce { base with port := { p with deciding := deciding } } = none ∧ base.control.handOvers = []) ∧
    ∃ s : State, s.ReadyUrgent ∧ s.sysclr = false ∧ s.passage.inHand = none ∧ s.passage.presented = none ∧
      rowSeenAtOnce s = none ∧ s.control.handOvers = [] ∧ s.port.current = none ∧ s.port.deciding = true ∧
      s.port.refreshWaiting = false ∧ s.port.passWaiting = false ∧ s.port.reportWaiting = some .block := by
  refine ⟨by simp only [State.ReadyUrgent]; decide +kernel, by simp only [State.ReadyUrgent]; decide +kernel,
    { base with port := { MemoryPort.por with reportWaiting := some .block, deciding := true } }, ?_⟩
  simp only [State.ReadyUrgent]; decide +kernel

theorem refreshDone_base : ∃ t, rowRefreshDone base = some t ∧ t.afterEvent.port.current = none :=
  ⟨_, rfl, by decide +kernel⟩

/-- A grant of each kind that the statement names, and one whose completion ends it. -/
theorem witness_ThePortDrivesTheAccessInProgress :
    (∃ s : State, s.port.current = some .passthrough ∧
      s.passage.inHand = some (.write 245759 (some .low) 0xABCD .unplaced)) ∧
    (∃ s t : State, s.Ready ∧ s.port.current = some .refresh ∧ exec .refreshDone s = .next t ∧
      t.port.current = none) ∧
    (granted (.copy (.write 262143 7) false) base).Ready := by
  have hr : base.Ready := by simp only [State.Ready]; decide +kernel
  obtain ⟨t, ht, hc⟩ := refreshDone_base
  have hx : occur dueAny (running rowRefreshDone) base = .next t.afterEvent :=
    occur_of_some hr.2 ((if_neg (by decide)).trans ht)
  refine ⟨⟨granted .passthrough (writing 245759 (some .low) .unplaced base), rfl, rfl⟩,
    ⟨base, _, hr, rfl, hx, hc⟩, ?_⟩
  · simp only [State.Ready]; decide +kernel

theorem witness_ReportBlocksAndTheImage :
    (∃ s : State, s.por = false ∧ s.port.current = some (.reportBlock none)) ∧
    (granted (.reportBlock (some [1, 2])) base).Ready ∧
    ∀ n ∈ [1, 2, 3, 4], (granted (.image n) base).Ready := by
  refine ⟨⟨granted (.reportBlock none) base, rfl, rfl⟩, ?_⟩
  simp only [State.Ready]; decide +kernel

/-- Every count at the end of its range. -/
theorem witness_TheRecordHasTheStatedLayout : ∃ s : State, s.seq.recoveryCount = 5 ∧ s.capture.records.length = 16 ∧
    s.queue.length = 256 ∧ s.copy.rowsRemaining = 1024 :=
  ⟨{ holding 16 with
    seq := { Sequencer.por with panel := .barred, recoveryCount := 5 }
    queue := orders 256
    copy := { CopyEngine.por with rowsRemaining := 1024 } }, by decide +kernel⟩

/-- The copy words of a fill of R rows of one word from word 1000 on, with destination pitch 128. -/
def fillWords (dest rows : Word) : Vector Word 10 := #v[1, 0, 0, 0, dest, 0, 128, 0, rows, 7]

/-- A copy in hand; a destination that ends just below the control page, and one that reaches its first word. -/
theorem witness_StartCopyChecksAndLatches :
    ((command 6 0 (copying .sourceRead false litBusy)).ReadyUrgent ∧
      (copying .sourceRead false litBusy).copy.outcome = .active) ∧
    (∀ x ∈ [(65279, true), (65280, false)],
      (command 6 0 { litBusy with control := { ControlBlock.por with copyWords := fillWords (BitVec.ofNat 16 x.1) 0 } }).ReadyUrgent ∧
      ({ ControlBlock.por with copyWords := fillWords (BitVec.ofNat 16 x.1) 0 } : ControlBlock).copyRequest.passes ParamSet.por 0 = x.2) ∧
    litBusy.copy.outcome ≠ .active := by
  simp only [State.ReadyUrgent]; decide +kernel

/-- A request whose last word is word 262,143. -/
theorem witness_TheCopyRequestIsBroughtIntoRange :
    let q := ({ ControlBlock.por with copyWords := #v[0, 65535, 3, 0, 65535, 3, 0, 0, 0, 0] } : ControlBlock).copyRequest
    q.mode = .copy ∧ 0 < q.rows ∧ 0 < q.words ∧ q.source + (q.rows - 1) * q.sourcePitch + q.words - 1 = 262143 ∧
      q.dest + (q.rows - 1) * q.destPitch + q.words - 1 = 262143 := by decide +kernel

theorem witness_CancelCopyEndsOrWaits :
    (command 7 0 litBusy).ReadyUrgent ∧ litBusy.copy.outcome ≠ .active ∧
    (command 7 0 (copying (.destWrite 7 .unplaced) true litBusy)).ReadyUrgent ∧
    (command 7 0 (granted (.copy (.write 1000 7) true) (copying (.destWrite 7 .unplaced) false litBusy))).ReadyUrgent ∧
    (command 7 0 (copying (.destWrite 7 .placed) false litBusy)).ReadyUrgent ∧
    (copying (.destWrite 7 .placed) false litBusy).port.current = some .refresh := by
  simp only [State.ReadyUrgent]; decide +kernel

/-- A request of each mode; a destination in the picture in LIT with a place free and with none, and outside LIT; a
read that completes for a copy in hand, a cancelled one and an aborted one; a place given. -/
theorem witness_CopyWordsBeginAndCopyReadsComplete :
    (∀ m ∈ [CopyMode.copy, .fill], ∃ s : State, ∃ q, s.copy.request = some q ∧ q.mode = m ∧ s.seq.panel = .lit ∧
      s.standing.inPicture (q.destAt s.copy.row s.copy.word).toNat = true) ∧
    ((holding 15).capture.records.length < 16 ∧ (holding 15).passage.holds = false ∧
      ¬((holding 16).capture.records.length < 16)) ∧
    (∀ c ∈ [false, true], (granted (.copy (.read 0) true) (copying .sourceRead c litBusy)).ReadyInstant) ∧
    (granted (.copy (.read 0) false) litBusy).ReadyInstant ∧
    ∃ s : State, s.por = false ∧ s.copy.step = .waitPlace 7 ∧ s.copy.request ≠ none ∧
      s.capture.records.length + s.capture.reservations = 15 ∧ s.passage.holds = false := by
  refine ⟨fun m _ => ⟨{ lit with copy := { CopyEngine.por with request := some ⟨m, 0, 0, 1000, 1, 1, 2, 7⟩ } },
    ⟨m, 0, 0, 1000, 1, 1, 2, 7⟩, rfl, rfl, rfl, by cases m <;> decide +kernel⟩, by decide +kernel, ?_, ?_,
    ⟨copying (.waitPlace 7) false (holding 15), by decide +kernel⟩⟩ <;>
  simp only [State.ReadyInstant] <;> decide +kernel

/-- The first and the last word of the fill of `copying`; a write that a moved plane covers; an aborted write. -/
theorem witness_ACopyWriteMovesOnOrEnds :
    (∀ c ∈ [false, true], (granted (.copy (.write 1000 7) true) (copying (.destWrite 7 .unplaced) c litBusy)).ReadyInstant) ∧
    (∃ s : State, s.ReadyInstant ∧ s.port.current = some (.copy (.write 1001 7) true) ∧
    s.copy.step = .destWrite 7 .unplaced ∧
      ∃ q, s.copy.request = some q ∧ s.copy.word + 1 = q.words ∧ s.copy.row + 1 = q.rows) ∧
    (ParamSet.inPlane { ParamSet.por with planeBlock := 0 } 1000 = true ∧ ParamSet.por.inPlane 1000 = false) ∧
    (granted (.copy (.write 1000 7) false) base).ReadyInstant ∧
    (command 7 0 (granted (.copy (.write 1000 7) true) (copying (.destWrite 7 .unplaced) false litBusy))).ReadyInstant := by
  refine ⟨by simp only [State.ReadyInstant]; decide +kernel,
    ⟨granted (.copy (.write 1001 7) true) { litBusy with
      copy := ⟨some ⟨.fill, 0, 0, 1000, 1, 1, 2, 7⟩, 0, 1, .destWrite 7 .unplaced, 1, .active, false⟩ }, ?_, rfl, rfl,
      ⟨.fill, 0, 0, 1000, 1, 1, 2, 7⟩, rfl, rfl, rfl⟩, by decide, ?_, ?_⟩ <;>
  simp only [State.ReadyInstant] <;> decide +kernel

/-- LIT, armed, with nothing left to do; and the state after reset. -/
theorem witness_CausesEnterAndEveryEventClosesWithQuiet :
    ({ lit with report := { ReportUnit.por with quietArmed := true } } : State).AllQuiet ∧ ¬base.AllQuiet :=
  ⟨⟨rfl, rfl, rfl, rfl, rfl, by simp [lit, base, State.reset, StaleSet.clear], rfl, rfl, rfl⟩,
    fun h => absurd h.lit (by decide)⟩

/-- The smallest and the largest step, with a range that is not empty. -/
theorem witness_TheInverseRangeIsExact :
    inverseRange 0 4 127 127 = some (508, 511) ∧ inverseRange 0 64 2044 2044 = some (511, 511) ∧
    inverseRange 1 4 0 0 = none := by decide

theorem witness_TheRectangleIsTheCellsThatSampleACarriedPixel : ParamSet.por.Valid 3 ∧
    ParamSet.por.rectangle ⟨61439, .low, 0⟩ = some ⟨479, 479, 510, 511⟩ := ⟨porIsValid 3, by decide⟩

theorem witness_TheTargetDotFollowsTheStandingSet : ParamSet.por.Valid 0 ∧ ParamSet.por.target 511 479 15 = true ∧
    ParamSet.por.target 511 480 15 = false := ⟨porIsValid 0, by decide, by decide⟩

/-! ### A state with every invariant, in LIT -/

/-- The plane words of the first four cell words of lines 0 to 63: the first is 8000h, the others 0. -/
def planeCells : List Host.Cell :=
  (List.range 64).flatMap fun l => (List.range 4).flatMap fun i =>
    [(2 * (229376 + 32 * l + i), if l = 0 ∧ i = 0 then 0x80#8 else 0#8), (2 * (229376 + 32 * l + i) + 1, 0#8)]

/-- LIT with groups X0 and Y0 in service, one lit bit in the plane, and its LIGHT order waiting. -/
def lawful : State := { lit with
  dram := planeCells
  seq := { lit.seq with outX := 0xFE, outY := 0xFE }
  queue := [⟨0, 0, .light⟩] }

theorem planeCells_wf : Memory.wf planeCells = true := by decide +kernel

theorem lawful_words (l i : Nat) (hl : l < 64) (hi : i < 4) :
    lawful.readWord (lawful.standing.cellAddress ⟨l, i⟩) = if l = 0 ∧ i = 0 then 0x8000#16 else 0#16 := by
  have ha : (lawful.standing.cellAddress ⟨l, i⟩).toNat = 229376 + 32 * l + i := by
    show (BitVec.ofNat 18 (229376 + 32 * l + i)).toNat = _
    rw [BitVec.toNat_ofNat, Nat.mod_eq_of_lt (by omega)]
  have hm : ∀ x ∈ [(2 * (229376 + 32 * l + i), if l = 0 ∧ i = 0 then 0x80#8 else 0#8),
      (2 * (229376 + 32 * l + i) + 1, 0#8)], x ∈ planeCells := fun x hx =>
    List.mem_flatMap.2 ⟨l, List.mem_range.2 hl, List.mem_flatMap.2 ⟨i, List.mem_range.2 hi, hx⟩⟩
  have h1 := (Memory.get?_of_mem planeCells_wf (hm _ (List.mem_cons_self ..))).2
  have h2 := (Memory.get?_of_mem planeCells_wf (hm _ (List.mem_cons_of_mem _ (List.mem_cons_self ..)))).2
  have hd : lawful.dram = planeCells := rfl
  simp only [State.readWord, State.readLane, laneKey, ha, hd, if_true, Nat.add_zero, Bool.false_eq_true, if_false, h1,
    h2]
  by_cases h0 : l = 0 ∧ i = 0
  · rw [if_pos h0, if_pos h0, Option.getD_some, Option.getD_some]; rfl
  · rw [if_neg h0, if_neg h0, Option.getD_some, Option.getD_some]; rfl

theorem lawful_sequencer : lawful.SequencerOk :=
  ⟨by decide, by decide, by decide, by decide, by decide, by decide, by decide, by decide, by decide, by decide⟩

theorem lawful_sets : lawful.SetsOk := ⟨porIsValid _, nofun⟩

theorem lawful_queue : lawful.QueueOk :=
  ⟨by decide, by decide, by decide, by decide, nofun, nofun, by decide⟩

theorem lawful_render : lawful.RenderOk :=
  ⟨fun _ _ => ⟨rfl, rfl⟩, nofun, nofun, nofun, by decide, by decide,
    by decide⟩

theorem lawful_report : lawful.ReportOk := by
  refine ⟨fun _ => ⟨fun _ => ⟨1, .inl rfl⟩, fun _ => rfl⟩, fun _ => ⟨by decide, by decide⟩, fun _ => ⟨nofun, nofun⟩,
    fun _ _ => ⟨nofun, nofun⟩, by decide⟩

theorem lawful_law (column line : Nat) (hc : column < 512) (hl : line < 512)
    (h : lawful.seq.cellOut column line = false) : lawful.Corresponds column line := by
  have hx : ∀ g : Fin 8, lawful.seq.outX.getLsbD g = false → g = 0 := by decide
  have hy : ∀ g : Fin 8, lawful.seq.outY.getLsbD g = false → g = 0 := by decide
  simp only [Sequencer.cellOut, Bool.or_eq_false_iff] at h
  have h1 := congrArg Fin.val (hx ⟨column / 64, by omega⟩ h.1)
  have h2 := congrArg Fin.val (hy ⟨line / 64, by omega⟩ h.2)
  simp only [Fin.isValue, Fin.coe_ofNat_eq_mod, Nat.zero_mod] at h1 h2
  have hw := lawful_words line (column / 16) (by omega) (by omega)
  have hbit : ∀ c : Fin 16, cellBitOf 0x8000#16 c = decide (c.val = 0) := by decide
  have hp : lawful.planeBit column line = decide (column = 0 ∧ line = 0) := by
    show cellBitOf (lawful.readWord (lawful.standing.cellAddress ⟨line, column / 16⟩)) column = _
    rw [hw]
    by_cases h0 : line = 0 ∧ column / 16 = 0
    · rw [if_pos h0, hbit ⟨column, by omega⟩]
      simp [h0.1]
    · rw [if_neg h0]
      have : ¬(column = 0 ∧ line = 0) := by omega
      simp [cellBitOf, this]
  by_cases h0 : column = 0 ∧ line = 0
  · obtain ⟨rfl, rfl⟩ := h0
    exact .inr ⟨by rw [hp]; decide, by rw [hp]; decide⟩
  · refine .inl ⟨?_, ?_⟩
    · have : (lawful.queue.any fun o => o.isAt column line) = (decide (0 = column) && decide (0 = line)) := by
        simp [lawful, CellOrder.isAt]
      rw [this]
      by_contra hh
      simp only [Bool.not_eq_false, Bool.and_eq_true, decide_eq_true_eq] at hh
      omega
    · rw [hp]
      simp [PanelGlass.shows, lawful, lit, PanelGlass.erased, h0]

theorem lawful_lawOk : lawful.LawOk where
  sets := lawful_sets
  queue := lawful_queue
  render := lawful_render
  sequencer := lawful_sequencer
  report := lawful_report
  law := fun _ _ => lawful_law
  dark := by decide
  erased := by decide
  wiped := fun _ h => absurd h (by decide)
  abandoned := nofun
  block := nofun

theorem witness_EveryStepKeepsMemoryOutputsAndPassage : lawful.MemoryOk ∧ lawful.OutputsOk ∧ lawful.PassageOk ∧
    lawful.PortOk ∧ step lawful = .next lawful := by
  refine ⟨?_, ⟨by decide, by decide⟩, ⟨by decide, by decide, by decide, by decide, by decide⟩,
    ⟨by decide, by decide, by decide⟩, rfl⟩
  exact planeCells_wf

theorem witness_EveryStepKeepsTheSequencer : lawful.SequencerOk ∧ lawful.DebounceOk ∧ lawful.SetsOk ∧
    step lawful = .next lawful := by
  refine ⟨lawful_sequencer, ⟨by decide, by decide, fun _ axis g h => ?_⟩, lawful_sets, rfl⟩
  have : lawful.seq.groupTimer axis g = none := by
    have : ∀ g, entry (Vector.replicate 8 (none : Timer)) g none = none := by
      intro g
      rcases g with _ | _ | _ | _ | _ | _ | _ | _ | g <;> rfl
    cases axis <;> exact this g
  simp [this] at h

theorem witness_EveryStepKeepsTheAddressStage : lawful.AddressOk ∧ lawful.QueueOk ∧ step lawful = .next lawful :=
  ⟨⟨lawful_sets, by decide, by decide, by decide, by decide, nofun, nofun,
    by decide⟩, lawful_queue, rfl⟩

theorem witness_EveryStepKeepsListAndQueue : lawful.CaptureOk ∧ lawful.QueueOk ∧ step lawful = .next lawful := by
  refine ⟨⟨by decide, by decide, by decide, fun _ => ?_, by decide⟩, lawful_queue, rfl⟩
  show ∀ l : Fin 512, StaleSet.clear.lines[l].hold ≤ 0
  simp [StaleSet.clear]

theorem witness_EveryStepKeepsItemAndCopy : lawful.RenderOk ∧ lawful.QueueOk ∧ lawful.SequencerOk ∧ lawful.CopyOk ∧
    step lawful = .next lawful :=
  ⟨lawful_render, lawful_queue, lawful_sequencer,
    ⟨fun _ _ => ⟨rfl, rfl, rfl, rfl⟩, by decide, by decide, nofun⟩, rfl⟩

theorem witness_EveryStepKeepsTheCorrespondenceLaw : lawful.LawOk ∧ lawful.queue ≠ [] ∧
    lawful.seq.cellOut 0 0 = false ∧ step lawful = .next lawful :=
  ⟨lawful_lawOk, by decide, by decide, rfl⟩

end Sys2Proof.Tests
end

section
/-! PROOFS. Picture memory and the viewport (spec/01). First the geometry: which panel columns sample a pixel run, which
words of the picture hold a pixel, and which pixels a write carries. -/

namespace Sys2Proof.Machine

/-! ### The inverse mapping (R9, R10) -/

theorem ceilDiv_le_iff {a b n : Nat} (hb : 0 < b) : ceilDiv a b ≤ n ↔ a ≤ n * b := by
  rw [ceilDiv, ← Nat.lt_succ_iff, Nat.div_lt_iff_lt_mul hb, Nat.succ_mul]
  omega

theorem lt_ceilDiv_iff {a b n : Nat} (hb : 0 < b) : n < ceilDiv a b ↔ n * b < a := by
  rw [← not_le, ceilDiv_le_iff hb, not_le]

theorem inverseRange_eq_some_iff {origin step x0 x1 : Nat} {r : Nat × Nat} :
    inverseRange origin step x0 x1 = some r ↔ origin ≤ x1 ∧
      ceilDiv (16 * (x0 - origin)) step < min 512 (ceilDiv (16 * (x1 - origin + 1)) step) ∧
      r = (ceilDiv (16 * (x0 - origin)) step, min 512 (ceilDiv (16 * (x1 - origin + 1)) step) - 1) := by
  unfold inverseRange
  split
  · simp_all
  · simp_all [eq_comm (a := r)]

theorem inverseRange_bounds {origin step x0 x1 : Nat} {r : Nat × Nat} (h : inverseRange origin step x0 x1 = some r) :
    r.1 ≤ r.2 ∧ r.2 ≤ 511 := by
  obtain ⟨-, hlt, rfl⟩ := inverseRange_eq_some_iff.1 h
  dsimp only
  omega

/-- R10: a panel column lies in the inverse range of a run exactly when the pixel it samples lies in the run. -/
theorem mem_inverseRange_iff {origin step x0 x1 cx : Nat} (hs : 0 < step) (hc : cx < 512) :
    (∃ r, inverseRange origin step x0 x1 = some r ∧ r.1 ≤ cx ∧ cx ≤ r.2) ↔
      x0 ≤ origin + cx * step / 16 ∧ origin + cx * step / 16 ≤ x1 := by
  have first : ceilDiv (16 * (x0 - origin)) step ≤ cx ↔ x0 ≤ origin + cx * step / 16 := by
    rw [ceilDiv_le_iff hs]; omega
  have last : origin ≤ x1 → (cx < ceilDiv (16 * (x1 - origin + 1)) step ↔ origin + cx * step / 16 ≤ x1) := by
    intro ho
    rw [lt_ceilDiv_iff hs]; omega
  constructor
  · rintro ⟨r, hr, h1, h2⟩
    obtain ⟨ho, hlt, rfl⟩ := inverseRange_eq_some_iff.1 hr
    dsimp only at h1 h2
    exact ⟨first.1 h1, (last ho).1 (by omega)⟩
  · rintro ⟨h1, h2⟩
    have ho : origin ≤ x1 := by omega
    have h1 := first.2 h1
    have h2 := (last ho).2 h2
    refine ⟨_, inverseRange_eq_some_iff.2 ⟨ho, by omega, rfl⟩, h1, ?_⟩
    dsimp only
    omega

/-- Settles O51: the two ends of the range are the two halves of R9's condition on a column. -/
theorem theInverseRangeIsExact : Obligations.TheInverseRangeIsExact := by
  intro origin step px h4 _
  have hs : 0 < step := by omega
  refine ⟨fun cx hc => ?_, fun r hr => ?_⟩
  · rw [mem_inverseRange_iff hs hc]
    omega
  · obtain ⟨ho, hlt, rfl⟩ := inverseRange_eq_some_iff.1 hr
    refine ⟨ho, rfl, ?_, (inverseRange_bounds hr).1⟩
    simp only [ceilDiv]
    omega

/-! ### Pixels and the words that hold them (R1, R3, R4) -/

theorem PixelFormat.perWord_pos (f : PixelFormat) : 0 < f.perWord := by cases f <;> decide

/-- R4: the position stands in a lane that the write carries, in a word of `n` pixels. -/
def Lanes.CarriesPosition (n k : Nat) : Lanes → Prop
  | .both => True
  | .high => k < n / 2
  | .low => n / 2 ≤ k

theorem mem_carriedPositions_iff {f : PixelFormat} {l : Lanes} {k : Nat} (hk : k < f.perWord) :
    (carriedPositions f l).1 ≤ k ∧ k ≤ (carriedPositions f l).2 ↔ l.CarriesPosition f.perWord k := by
  cases f <;> cases l <;> simp [carriedPositions, PixelFormat.perWord, Lanes.CarriesPosition] at hk ⊢ <;> omega

theorem carriedPositions_bounds (f : PixelFormat) (l : Lanes) :
    (carriedPositions f l).1 ≤ (carriedPositions f l).2 ∧ (carriedPositions f l).2 < f.perWord := by
  cases f <;> cases l <;> decide

theorem ParamSet.carriedRun_eq_some_iff {p : ParamSet} {w : Nat} {l : Lanes} {run : Nat × Nat} :
    p.carriedRun w l = some run ↔ p.format.perWord * w + (carriedPositions p.format l).1 < p.width ∧
      run = (p.format.perWord * w + (carriedPositions p.format l).1,
        min (p.format.perWord * w + (carriedPositions p.format l).2) (p.width - 1)) := by
  simp [ParamSet.carriedRun, eq_comm (a := run)]

/-- R4: the pixels of the carried run are those of the word that lie in the picture, at carried positions. -/
theorem ParamSet.mem_carriedRun_iff {p : ParamSet} {w : Nat} {l : Lanes} {x : Nat} :
    (∃ run, p.carriedRun w l = some run ∧ run.1 ≤ x ∧ x ≤ run.2) ↔
      x < p.width ∧ x / p.format.perWord = w ∧ l.CarriesPosition p.format.perWord (x % p.format.perWord) := by
  have hn := p.format.perWord_pos
  have hmod := Nat.mod_lt x hn
  have hx := Nat.div_add_mod x p.format.perWord
  obtain ⟨hle, hlt⟩ := carriedPositions_bounds p.format l
  rw [← mem_carriedPositions_iff hmod]
  constructor
  · rintro ⟨run, hrun, h1, h2⟩
    obtain ⟨hw, rfl⟩ := carriedRun_eq_some_iff.1 hrun
    dsimp only at h1 h2
    have hdiv : x / p.format.perWord = w := by
      refine Nat.div_eq_of_lt_le ?_ ?_
      · rw [Nat.mul_comm]; omega
      · rw [Nat.succ_mul, Nat.mul_comm]; omega
    rw [hdiv] at hx
    exact ⟨by omega, hdiv, by omega, by omega⟩
  · rintro ⟨hxw, rfl, h1, h2⟩
    exact ⟨_, carriedRun_eq_some_iff.2 ⟨by omega, rfl⟩, by dsimp only; omega, by dsimp only; omega⟩

theorem ParamSet.locate_eq_some_iff {p : ParamSet} {a : Addr} {rw : Nat × Nat} :
    p.locate a = some rw ↔ p.inPicture a.toNat = true ∧
      (a.toNat - p.base) / p.pitch = rw.1 ∧ (a.toNat - p.base) % p.pitch = rw.2 := by
  simp [ParamSet.locate, Prod.ext_iff]

theorem ParamSet.inPicture_iff {p : ParamSet} {a : Nat} :
    p.inPicture a = true ↔ p.base ≤ a ∧ a < p.base + p.height * p.pitch := by
  simp [ParamSet.inPicture]

/-- R2, R3: word `w` of row `y` stands at its address and nowhere else. -/
theorem ParamSet.locate_eq_row_word_iff {p : ParamSet} {a : Addr} {y w : Nat} (hw : w < p.pitch) :
    p.locate a = some (y, w) ↔ y < p.height ∧ a.toNat = p.base + y * p.pitch + w := by
  rw [locate_eq_some_iff, inPicture_iff]
  dsimp only
  constructor
  · rintro ⟨⟨hb, ht⟩, rfl, rfl⟩
    refine ⟨(Nat.div_lt_iff_lt_mul (by omega)).2 (by omega), ?_⟩
    have := Nat.div_add_mod' (a.toNat - p.base) p.pitch
    omega
  · rintro ⟨hy, ha⟩
    have hrow : (y + 1) * p.pitch ≤ p.height * p.pitch := Nat.mul_le_mul_right _ hy
    rw [Nat.succ_mul] at hrow
    have hoff : a.toNat - p.base = w + p.pitch * y := by rw [Nat.mul_comm p.pitch]; omega
    refine ⟨⟨by omega, by omega⟩, ?_, ?_⟩
    · rw [hoff, Nat.add_mul_div_left _ _ (by omega), Nat.div_eq_of_lt hw, Nat.zero_add]
    · rw [hoff, Nat.add_mul_mod_self_left, Nat.mod_eq_of_lt hw]

/-! ### Cells and the word they sample (R7, R11) -/

/-- The word index of a picture column lies within the row pitch. -/
theorem ParamSet.Valid.wordIndex_lt {p : ParamSet} {straps : BitVec 2} (v : p.Valid straps) {x : Nat}
    (hx : x < p.width) : x / p.format.perWord < p.pitch :=
  (Nat.div_lt_iff_lt_mul p.format.perWord_pos).2 (lt_of_lt_of_le hx v.width.2.2)

theorem ParamSet.mem_rectangle_iff {p : ParamSet} {r : CaptureRecord} {cx cy : Nat} (hsx : 0 < p.stepX)
    (hsy : 0 < p.stepY) (hcx : cx < 512) (hcy : cy < 512) :
    (∃ q, p.rectangle r = some q ∧ q.line0 ≤ cy ∧ cy ≤ q.line1 ∧ q.column0 ≤ cx ∧ cx ≤ q.column1) ↔
      ∃ w, p.locate r.address = some (p.sampleY cy, w) ∧
        ∃ run, p.carriedRun w r.lanes = some run ∧ run.1 ≤ p.sampleX cx ∧ p.sampleX cx ≤ run.2 := by
  simp only [ParamSet.rectangle, Option.bind_eq_some_iff, Option.map_eq_some_iff]
  constructor
  · rintro ⟨q, ⟨⟨y, w⟩, hloc, run, hrun, ls, hls, cs, hcs, rfl⟩, hl0, hl1, hc0, hc1⟩
    have hy := (mem_inverseRange_iff hsy hcy).1 ⟨ls, hls, hl0, hl1⟩
    have hx := (mem_inverseRange_iff hsx hcx).1 ⟨cs, hcs, hc0, hc1⟩
    obtain rfl : y = p.sampleY cy := Nat.le_antisymm hy.1 hy.2
    exact ⟨w, hloc, run, hrun, hx⟩
  · rintro ⟨w, hloc, run, hrun, hx⟩
    obtain ⟨ls, hls, hl0, hl1⟩ := (mem_inverseRange_iff (x0 := p.sampleY cy) hsy hcy).2 ⟨le_rfl, le_rfl⟩
    obtain ⟨cs, hcs, hc0, hc1⟩ := (mem_inverseRange_iff hsx hcx).2 hx
    exact ⟨_, ⟨_, hloc, run, hrun, ls, hls, cs, hcs, rfl⟩, hl0, hl1, hc0, hc1⟩

/-- Settles O52: the record's word and lanes fix a row and a run of pixels, and the cells of the rectangle are those
that sample a pixel of both. -/
theorem theRectangleIsTheCellsThatSampleACarriedPixel :
    Obligations.TheRectangleIsTheCellsThatSampleACarriedPixel := by
  intro p straps r cx cy v hcx hcy n px py carried
  have hn : n = p.format.perWord := rfl
  have hcarried : carried ↔ r.lanes.CarriesPosition p.format.perWord (p.sampleX cx % p.format.perWord) := Iff.rfl
  rw [p.mem_rectangle_iff (by have := v.step; omega) (by have := v.step; omega) hcx hcy, hcarried, hn]
  constructor
  · rintro ⟨w, hloc, hrun⟩
    obtain ⟨hx, rfl, hpos⟩ := p.mem_carriedRun_iff.1 hrun
    obtain ⟨hy, ha⟩ := (p.locate_eq_row_word_iff (v.wordIndex_lt hx)).1 hloc
    exact ⟨hx, hy, ha, hpos⟩
  · rintro ⟨hx, hy, ha, hpos⟩
    exact ⟨_, (p.locate_eq_row_word_iff (v.wordIndex_lt hx)).2 ⟨hy, ha⟩, p.mem_carriedRun_iff.2 ⟨hx, rfl, hpos⟩⟩

end Sys2Proof.Machine
end

section
/-! PROOFS. The steps of a COMMIT (spec/01 1.6): what the field clamps do and name, and what the checks ask. -/

namespace Sys2Proof.Machine

/-! ### Step 1: field clamps (R14) -/

/-- A number brought to the nearer of two limits. -/
def nearerLimit (lo hi v : Nat) : Nat := if v < lo then lo else if hi < v then hi else v

theorem clampTo_eq_nearerLimit {lo hi : Nat} (v : Nat) (h : lo ≤ hi) : clampTo lo hi v = nearerLimit lo hi v := by
  unfold clampTo nearerLimit
  split_ifs <;> omega

theorem min_eq_nearerLimit (hi v : Nat) : min hi v = nearerLimit 0 hi v := by
  unfold nearerLimit
  split_ifs <;> omega

theorem ControlBlock.clamped_format_iff (c : ControlBlock) : c.clamped.format = .tone4 ↔ c.staged 3 = 0 := by
  simp [ControlBlock.clamped]

theorem ControlBlock.clamped_ditherMode_iff (c : ControlBlock) :
    c.clamped.ditherMode = .ordered ↔ c.staged 12 = 0 := by
  simp [ControlBlock.clamped]

theorem ControlBlock.clamped_toneMap (c : ControlBlock) (t : Fin 16) :
    c.clamped.toneMap[t] = min 16 (c.staged (64 + t.val)) := by
  simp [ControlBlock.clamped]

theorem ControlBlock.clamped_matrix (c : ControlBlock) (i : Fin 16) :
    c.clamped.matrix[i] = min 15 (c.staged (80 + i.val)) := by
  simp [ControlBlock.clamped]

/-! ### The clamp set -/

/-- A set built by entering the bits of the members that `f` accepts: bit `i` of it. -/
theorem getLsbD_foldl_enter {α : Type} {n : Nat} (f : α → Bool) (bit : α → BitVec n) (i : Nat) (l : List α)
    (b : BitVec n) :
    (l.foldl (fun b x => if f x then b ||| bit x else b) b).getLsbD i =
      (b.getLsbD i || l.any fun x => f x && (bit x).getLsbD i) := by
  induction l generalizing b with
  | nil => simp
  | cons x l ih =>
    rw [List.foldl_cons, ih, List.any_cons]
    cases f x <;> simp [Bool.or_assoc]

/-- The place of a clamp group in the clamp set (R138). -/
def ClampGroup.place : ClampGroup → Nat
  | .picture => 0
  | .viewport => 1
  | .tone => 2
  | .dither => 3
  | .cursor => 4
  | .sustain => 5
  | .pulse => 6
  | .other => 7

theorem ClampGroup.getLsbD_bit (g h : ClampGroup) : g.bit.getLsbD h.place = decide (g = h) := by
  cases g <;> cases h <;> rfl

/-- Bit by bit, the clamp set of step 1 names the groups a field of which was clamped. -/
theorem ControlBlock.clampBits_getLsbD (c : ControlBlock) (g : ClampGroup) :
    c.clampBits.getLsbD g.place = c.clamps g := by
  rw [ControlBlock.clampBits, getLsbD_foldl_enter]
  simp only [ClampGroup.getLsbD_bit]
  cases g <;> simp

theorem ControlBlock.outside_iff {c : ControlBlock} {o lo hi : Nat} :
    c.outside o lo hi = true ↔ c.staged o < lo ∨ hi < c.staged o := by
  simp [ControlBlock.outside]

/-- Settles O19: every field is one clamp of its staged value, and every clamp group one bit of the clamp set. -/
theorem commitBringsEveryFieldIntoRange : Obligations.CommitBringsEveryFieldIntoRange := by
  intro c p within
  have two {lo hi : Nat} (v : Nat) (h : lo ≤ hi) : clampTo lo hi v = within lo hi v := clampTo_eq_nearerLimit v h
  have one (hi v : Nat) : min hi v = within 0 hi v := min_eq_nearerLimit hi v
  have bit (g : ClampGroup) : c.clampBits.getLsbD g.place = true ↔ c.clamps g = true := by
    rw [c.clampBits_getLsbD g]
  refine ⟨⟨one _ _, two _ (by decide), two _ (by decide), two _ (by decide), one _ _, one _ _, two _ (by decide),
      two _ (by decide)⟩,
    ⟨one _ _, one _ _, fun t => (c.clamped_toneMap t).trans (one _ _), fun i => (c.clamped_matrix i).trans (one _ _)⟩,
    ⟨one _ _, one _ _, one _ _, one _ _⟩,
    ⟨two _ (by decide), two _ (by decide), one _ _, two _ (by decide), two _ (by decide), two _ (by decide), one _ _,
      one _ _, one _ _⟩,
    ⟨c.clamped_format_iff, c.clamped_ditherMode_iff, BitVec.toNat_ofNat _ _, BitVec.toNat_ofNat _ _,
      BitVec.toNat_ofNat _ _⟩, ?_⟩
  intro out
  refine ⟨(bit .picture).trans ?_, (bit .viewport).trans ?_, (bit .tone).trans ?_, (bit .dither).trans ?_,
    (bit .cursor).trans ?_, (bit .sustain).trans ?_, (bit .pulse).trans ?_, (bit .other).trans ?_⟩ <;>
  simp [ControlBlock.clamps, ControlBlock.outside_iff, out, or_assoc]

/-! ### Steps 2 to 4 (R15, R16, R17) -/

theorem ParamSet.tooTall_fitWidth_iff {p : ParamSet} :
    p.fitWidth.tooTall = true ↔ 262144 < p.base + p.height * p.pitch :=
  decide_eq_true_iff

theorem ParamSet.fitWidth_width_ne_iff {p : ParamSet} :
    p.fitWidth.width ≠ p.width ↔ p.pitch * p.format.perWord < p.width := by
  simp [ParamSet.fitWidth]

theorem ControlBlock.candidate_eq (c : ControlBlock) : c.candidate =
    { c.clamped with
      width := min c.clamped.width (c.clamped.pitch * c.clamped.format.perWord)
      height := if 262144 < c.clamped.base + c.clamped.height * c.clamped.pitch then
        (262144 - c.clamped.base) / c.clamped.pitch else c.clamped.height } := by
  by_cases h : 262144 < c.clamped.base + c.clamped.height * c.clamped.pitch <;>
    simp [ControlBlock.candidate, ParamSet.fitHeight, ParamSet.tooTall, ParamSet.fitWidth, h]

theorem ControlBlock.candidateClamps_eq (c : ControlBlock) : c.candidateClamps =
    if c.clamped.pitch * c.clamped.format.perWord < c.clamped.width ∨
        262144 < c.clamped.base + c.clamped.height * c.clamped.pitch then c.clampBits ||| 1#8 else c.clampBits := by
  simp only [ControlBlock.candidateClamps, Bool.or_eq_true, decide_eq_true_eq, ParamSet.fitWidth_width_ne_iff,
    ParamSet.tooTall_fitWidth_iff, ClampGroup.bit]
  rfl

theorem spansMeet_iff {a b c d : Nat} (hab : a ≤ b) (hcd : c ≤ d) :
    spansMeet a b c d = true ↔ ∃ x, (a ≤ x ∧ x ≤ b) ∧ c ≤ x ∧ x ≤ d := by
  simp only [spansMeet, Bool.and_eq_true, decide_eq_true_eq]
  constructor
  · rintro ⟨h1, h2⟩
    exact ⟨max a c, by omega, by omega⟩
  · rintro ⟨x, hx, hy⟩
    omega

theorem ParamSet.inPlane_iff {p : ParamSet} {x : Nat} :
    p.inPlane x = true ↔ p.planeStart ≤ x ∧ x ≤ p.planeStart + 16383 := by
  simp [ParamSet.inPlane]

theorem inControlPage_iff {straps : BitVec 2} {x : Nat} :
    inControlPage straps x = true ↔ controlPageStart straps ≤ x ∧ x ≤ controlPageStart straps + 255 := by
  simp [inControlPage]

/-- R17: two of the three spans meet exactly when a word lies in two of them; a picture of no rows has no word. -/
theorem ParamSet.overlaps_eq_false_iff {p : ParamSet} {straps : BitVec 2} (hp : 0 < p.height * p.pitch) :
    p.overlaps straps = false ↔ ∀ x : Nat, ¬(p.inPicture x = true ∧ p.inPlane x = true) ∧
      ¬(p.inPicture x = true ∧ inControlPage straps x = true) ∧
      ¬(p.inPlane x = true ∧ inControlPage straps x = true) := by
  have picture (x : Nat) : p.inPicture x = true ↔ p.base ≤ x ∧ x ≤ p.base + p.height * p.pitch - 1 := by
    rw [ParamSet.inPicture_iff]; omega
  simp only [ParamSet.overlaps, ← Bool.not_eq_true, Bool.or_eq_true, not_or,
    spansMeet_iff (show p.base ≤ p.base + p.height * p.pitch - 1 by omega) (Nat.le_add_right _ _),
    spansMeet_iff (Nat.le_add_right p.planeStart _) (Nat.le_add_right (controlPageStart straps) _),
    picture, ParamSet.inPlane_iff, inControlPage_iff, not_exists, forall_and, and_assoc]

theorem ControlBlock.candidate_pitch_pos (c : ControlBlock) : 0 < c.candidate.pitch := by
  rw [c.candidate_eq]
  exact le_max_left 1 _

theorem ControlBlock.candidatePasses_iff {c : ControlBlock} {straps : BitVec 2} :
    c.candidatePasses straps = true ↔ c.candidate.height ≠ 0 ∧
      ∀ x : Nat, ¬(c.candidate.inPicture x = true ∧ c.candidate.inPlane x = true) ∧
        ¬(c.candidate.inPicture x = true ∧ inControlPage straps x = true) ∧
        ¬(c.candidate.inPlane x = true ∧ inControlPage straps x = true) := by
  rw [ControlBlock.candidatePasses, Bool.and_eq_true, decide_eq_true_eq, Bool.not_eq_true']
  exact and_congr_right fun hh =>
    ParamSet.overlaps_eq_false_iff (Nat.mul_pos (Nat.pos_of_ne_zero hh) c.candidate_pitch_pos)

/-- The take of a hand-over leaves every staged word, so the candidate and its checks, as they were. -/
theorem State.doCommit_takeHandOver {s : State} {h : HandOver} {rest : List HandOver} (hn : s.control.checked = none) :
    State.doCommit (s.takeHandOver h rest) =
      let t := s.takeHandOver h rest
      let judged : ControlBlock := { t.control with clampSet := s.control.candidateClamps }
      if s.control.candidatePasses s.straps = true then
        ({ t with control := { judged with checked := some s.control.candidate } }, .done)
      else ({ t with control := judged }, .range) := by
  have ht : (s.takeHandOver h rest).control.checked = none := hn
  rw [State.doCommit, ht]
  rfl

/-- COMMIT waits for the urgent steps only. -/
theorem exec_commit (s : State) : exec .commit s = occur dueUrgent (running rowCommit) s := rfl

/-- Settles O18: the candidate and its clamp set are read off field by field, and the row acts on them at the take. -/
theorem commitStepsFitAndRefuse : Obligations.CommitStepsFitAndRefuse := by
  refine ⟨fun c straps => ?_, fun h rest s hs hh hc h1 hn => ?_⟩
  · intro q p n
    have hn : n = q.format.perWord := rfl
    have hp : p = _ := c.candidate_eq
    have hw : p.width = min q.width (q.pitch * n) := by rw [hp, hn]
    have hh : p.height = if 262144 < q.base + q.height * q.pitch then (262144 - q.base) / q.pitch else q.height := by
      rw [hp]
    have hclamps : c.candidateClamps = if q.pitch * n < q.width ∨ 262144 < q.base + q.height * q.pitch then
        c.clampBits ||| 1#8 else c.clampBits := by rw [hn]; exact c.candidateClamps_eq
    refine ⟨by rw [hp], fun hwide => ⟨?_, ?_⟩, fun hfit => ?_, fun htall => ⟨?_, ?_⟩, fun hfit => ?_,
      fun hwide htall => ?_, ControlBlock.candidatePasses_iff⟩
    · rw [hw]; omega
    · rw [hclamps, if_pos (.inl hwide)]
    · rw [hw]; omega
    · rw [hh, if_pos htall]
    · rw [hclamps, if_pos (.inr htall)]
    · rw [hh, if_neg (by omega)]
    · rw [hclamps, if_neg (by omega)]
  · intro t judged
    obtain ⟨hpor, hdue⟩ := hs
    have hrow : running rowCommit s = some _ := (running_of_not_por hpor).trans (commandRow_of hh hc (by simp [h1]))
    rw [exec_commit, occur_of_some hdue hrow, State.doCommit_takeHandOver hn, h1]
    by_cases hpass : s.control.candidatePasses s.straps = true
    · simp only [hpass, if_true]; rfl
    · simp only [hpass]; rfl

end Sys2Proof.Machine
end

section
/-! PROOFS. What a write becomes at its completion (spec/04 4.5), and the state after power-on reset. -/

namespace Sys2Proof.Machine

/-! ### Completed writes (R52, R55, R62, R63) -/

theorem satAdd_one (c : Word) : satAdd c 1 = if c = 65535 then 65535 else c + 1 := by
  apply BitVec.eq_of_toNat_eq
  have := c.isLt
  split_ifs with h
  · simp [satAdd, h]
  · have hc : c.toNat ≠ 65535 := fun e => h (BitVec.eq_of_toNat_eq e)
    have h1 : (1 : Word).toNat = 1 := rfl
    rw [satAdd, BitVec.toNat_ofNat, BitVec.toNat_add, h1]
    omega

theorem State.classify_controlPage {s : State} {a : Addr} (hp : s.standing.inPlane a.toNat = false)
    (hc : inControlPage s.straps a.toNat = true) : s.classify a = .controlPage := by
  simp [State.classify, hp, hc]

theorem State.classify_picture {s : State} {a : Addr} (hp : s.standing.inPlane a.toNat = false)
    (hc : inControlPage s.straps a.toNat = false) (hi : s.standing.inPicture a.toNat = true) :
    s.classify a = .picture := by
  simp [State.classify, hp, hc, hi]

theorem State.classify_other {s : State} {a : Addr} (hp : s.standing.inPlane a.toNat = false)
    (hc : inControlPage s.straps a.toNat = false) (hi : s.standing.inPicture a.toNat = false) :
    s.classify a = .other := by
  simp [State.classify, hp, hc, hi]

theorem CaptureList.hasFree_iff {c : CaptureList} :
    c.hasFree = true ↔ c.records.length + c.reservations < 16 :=
  decide_eq_true_iff

theorem State.landed_of_picture {s : State} {a : Addr} (h : s.classify a = .picture) (l : Lanes) (data : Word)
    (d : GuardDecision) : s.landed a l data d = (s.writeWord a l data).pictureWritten a l data d := by
  simp only [State.landed, h]

/-- Outside LIT a picture write only releases its place. -/
theorem State.pictureWritten_of_not_lit {s : State} (h : s.seq.panel ≠ .lit) (a : Addr) (l : Lanes) (data : Word)
    (d : GuardDecision) : s.pictureWritten a l data d = { s with capture := s.capture.release d } := by
  simp only [State.pictureWritten, if_neg h]

theorem State.pictureWritten_placed {s : State} (h : s.seq.panel = .lit) (a : Addr) (l : Lanes) (data : Word) :
    s.pictureWritten a l data .placed =
      { s with capture := (s.capture.release .placed).join ⟨a, l, carriedData l data⟩ } := by
  simp only [State.pictureWritten, if_pos h]

theorem State.pictureWritten_unplaced_free {s : State} (h : s.seq.panel = .lit) (hf : s.capture.hasFree = true)
    (a : Addr) (l : Lanes) (data : Word) :
    s.pictureWritten a l data .unplaced = { s with capture := s.capture.join ⟨a, l, carriedData l data⟩ } := by
  simp only [State.pictureWritten, if_pos h, if_pos hf]

/-- R62, R63: in LIT a write that finds no place overflows. -/
theorem State.pictureWritten_overflow {s : State} {d : GuardDecision} (h : s.seq.panel = .lit)
    (hd : d = .unplaced ∧ ¬s.capture.hasFree = true ∨ d = .expired) (a : Addr) (l : Lanes) (data : Word) :
    s.pictureWritten a l data d = s.overflow a l := by
  rcases hd with ⟨rfl, hf⟩ | rfl
  · simp only [State.pictureWritten, if_pos h, if_neg hf]
  · simp only [State.pictureWritten, if_pos h]

section
variable {s : State} {a : Addr} {l : Lanes}

/-- R63: an overflow raises the count and enters OVERFLOW; of a write that carries no pixel of the picture, nothing
more. -/
theorem State.overflow_of_none (h : s.standing.overflowLines a l = none) :
    s.overflow a l = State.enterCause { s with capture := { s.capture with
      overflows := if s.capture.overflows = 65535 then 65535 else s.capture.overflows + 1 } } .overflow := by
  simp only [State.overflow, satAdd_one, State.enterCause_keeps, h]

/-- R63, R72: the lines of the write's row are marked with the depth of the list. -/
theorem State.overflow_of_some {ls : Nat × Nat} (h : s.standing.overflowLines a l = some ls) :
    s.overflow a l = { State.enterCause { s with capture := { s.capture with
      overflows := if s.capture.overflows = 65535 then 65535 else s.capture.overflows + 1 } } .overflow with
        stale := s.stale.mark (fun y => decide (ls.1 ≤ y) && decide (y ≤ ls.2)) s.capture.records.length } := by
  simp only [State.overflow, satAdd_one, State.enterCause_keeps, h]

end

/-! ### The lines that an overflow marks (R12) -/

theorem ParamSet.overflowLines_bounds {p : ParamSet} {a : Addr} {l : Lanes} {ls : Nat × Nat}
    (h : p.overflowLines a l = some ls) : ls.1 ≤ ls.2 ∧ ls.2 ≤ 511 := by
  simp only [ParamSet.overflowLines, Option.bind_eq_some_iff] at h
  obtain ⟨_, -, _, -, h⟩ := h
  exact inverseRange_bounds h

theorem ParamSet.mem_overflowLines_iff {p : ParamSet} {a : Addr} {l : Lanes} {cy : Nat} (hs : 0 < p.stepY)
    (hc : cy < 512) :
    (∃ ls, p.overflowLines a l = some ls ∧ ls.1 ≤ cy ∧ cy ≤ ls.2) ↔
      p.inPicture a.toNat = true ∧ p.sampleY cy = (a.toNat - p.base) / p.pitch ∧
        ∃ run, p.carriedRun ((a.toNat - p.base) % p.pitch) l = some run := by
  simp only [ParamSet.overflowLines, Option.bind_eq_some_iff]
  constructor
  · rintro ⟨ls, ⟨⟨y, w⟩, hloc, run, hrun, hls⟩, h0, h1⟩
    obtain ⟨hin, rfl, rfl⟩ := p.locate_eq_some_iff.1 hloc
    have hy := (mem_inverseRange_iff hs hc).1 ⟨ls, hls, h0, h1⟩
    exact ⟨hin, Nat.le_antisymm hy.2 hy.1, run, hrun⟩
  · rintro ⟨hin, hy, run, hrun⟩
    obtain ⟨ls, hls, h0, h1⟩ := (mem_inverseRange_iff (origin := p.originY) hs hc).2 ⟨hy.ge, hy.le⟩
    exact ⟨ls, ⟨(_, _), p.locate_eq_some_iff.2 ⟨hin, rfl, rfl⟩, run, hrun, hls⟩, h0, h1⟩

/-- A write carries some pixel of the picture exactly when its carried run has its first pixel there. -/
theorem ParamSet.carriedRun_isSome_iff {p : ParamSet} {w : Nat} {l : Lanes} :
    (∃ run, p.carriedRun w l = some run) ↔ ∃ k, k < p.format.perWord ∧ l.CarriesPosition p.format.perWord k ∧
      p.format.perWord * w + k < p.width := by
  obtain ⟨hle, hlt⟩ := carriedPositions_bounds p.format l
  constructor
  · rintro ⟨run, hrun⟩
    exact ⟨(carriedPositions p.format l).1, by omega, (mem_carriedPositions_iff (by omega)).1 ⟨le_rfl, hle⟩,
      (carriedRun_eq_some_iff.1 hrun).1⟩
  · rintro ⟨k, hk, hpos, hw⟩
    have := (mem_carriedPositions_iff hk).2 hpos
    exact ⟨_, carriedRun_eq_some_iff.2 ⟨by omega, rfl⟩⟩

/-- Settles O13, by the kind of the word, the panel state and the guard decision. -/
theorem aLandedWriteHasTheOutcomeOfTheTable : Obligations.ALandedWriteHasTheOutcomeOfTheTable := by
  refine ⟨fun a l data d s hplane => ?_, fun p straps a l cy v hcy => ?_⟩
  · intro written record overflowed
    refine ⟨fun hpage => ?_, fun hpage hout => ?_, fun hpage hpic hlit => ?_⟩
    · simp only [State.landed, State.classify_controlPage hplane hpage]
      rfl
    · by_cases hpic : s.standing.inPicture a.toNat = true
      · have hdark : (s.writeWord a l data).seq.panel ≠ .lit := hout.resolve_left (by simp [hpic])
        rw [State.landed_of_picture (State.classify_picture hplane hpage hpic),
          State.pictureWritten_of_not_lit hdark]
        rfl
      · simp only [State.landed, State.classify_other hplane hpage (Bool.eq_false_of_not_eq_true hpic)]
        rfl
    · have hlit : (s.writeWord a l data).seq.panel = .lit := hlit
      rw [State.landed_of_picture (State.classify_picture hplane hpage hpic)]
      refine ⟨?_, ?_, fun hd => ?_⟩
      · rintro rfl
        exact State.pictureWritten_placed hlit a l data
      · rintro rfl hfree
        exact State.pictureWritten_unplaced_free hlit (CaptureList.hasFree_iff.2 hfree) a l data
      · have hd : d = .unplaced ∧ ¬(s.writeWord a l data).capture.hasFree = true ∨ d = .expired :=
          hd.imp_left (And.imp_right fun hfull => by rwa [CaptureList.hasFree_iff])
        rw [State.pictureWritten_overflow hlit hd]
        exact ⟨State.overflow_of_none (s := s.writeWord a l data),
          fun ls => State.overflow_of_some (s := s.writeWord a l data)⟩
  · intro n carried
    have hn : n = p.format.perWord := rfl
    have hcarried (k : Nat) : carried k ↔ l.CarriesPosition p.format.perWord k := Iff.rfl
    refine ⟨fun ls hls => p.overflowLines_bounds hls, ?_⟩
    rw [p.mem_overflowLines_iff (by have := v.step; omega) hcy, p.carriedRun_isSome_iff, p.inPicture_iff, and_assoc]
    simp only [hcarried, hn]
    rfl

/-! ### Power-on reset -/

/-- The groups' timers of a row of stopped timers, whichever group is asked for. -/
theorem entry_replicate_none (g : Nat) : entry (Vector.replicate 8 (none : Timer)) g none = none := by
  simp only [entry, Vector.toList_replicate, List.getD_eq_getElem?_getD, List.getElem?_replicate]
  split <;> rfl

theorem Sequencer.por_groupTimer (axis : Axis) (g : Nat) : Sequencer.por.groupTimer axis g = none := by
  cases axis <;> exact entry_replicate_none g

theorem StaleSet.clear_lines (l : Fin 512) : StaleSet.clear.lines[l] = ⟨false, 0⟩ :=
  Vector.getElem_replicate l.isLt

theorem StaleSet.clear_count : StaleSet.clear.count = 0 := by
  rw [StaleSet.count, StaleSet.clear, Vector.toList_replicate, List.countP_replicate]
  rfl

/-- Settles O6: the records of the blocks after POR, field by field. -/
theorem resetHoldsTheStatedValues : Obligations.ResetHoldsTheStatedValues := by
  refine ⟨by decide, by decide, by decide, ⟨rfl, rfl, rfl, rfl, rfl, rfl, rfl, rfl, rfl, rfl, StaleSet.clear_count,
    rfl, rfl, rfl, fun l => ?_⟩, by decide, ⟨rfl, rfl, rfl, rfl, rfl, rfl, rfl, rfl, rfl, rfl, rfl, rfl, rfl, rfl, rfl,
    Sequencer.por_groupTimer⟩, by decide, by decide, by decide, by decide⟩
  show StaleSet.clear.lines[l].stale = false ∧ StaleSet.clear.lines[l].hold = 0
  rw [StaleSet.clear_lines]
  exact ⟨rfl, rfl⟩

end Sys2Proof.Machine
end

section
/-! PROOFS. Cell words in hand: the picture words they sample (R8), how they begin (R42, R45), and what their cells are
compared with (R3, R27, R43). -/

namespace Sys2Proof.Machine

/-! ### Ascending lists without repeats -/

theorem mem_insertAsc_iff {a n : Nat} {l : List Nat} : a ∈ insertAsc n l ↔ a = n ∨ a ∈ l := by
  induction l with
  | nil => simp [insertAsc]
  | cons m l ih =>
    unfold insertAsc
    split_ifs with h1 h2
    · simp
    · subst h2; simp
    · simp [ih, or_left_comm]

theorem pairwise_insertAsc {n : Nat} {l : List Nat} (h : l.Pairwise (· < ·)) : (insertAsc n l).Pairwise (· < ·) := by
  induction l with
  | nil => simp [insertAsc]
  | cons m l ih =>
    obtain ⟨hm, hl⟩ := List.pairwise_cons.1 h
    unfold insertAsc
    split_ifs with h1 h2
    · refine List.pairwise_cons.2 ⟨fun x hx => ?_, h⟩
      rcases List.mem_cons.1 hx with rfl | hx
      · exact h1
      · exact h1.trans (hm x hx)
    · exact h
    · refine List.pairwise_cons.2 ⟨fun x hx => ?_, ih hl⟩
      rcases mem_insertAsc_iff.1 hx with rfl | hx
      · omega
      · exact hm x hx

theorem mem_foldr_insertAsc_iff {a : Nat} {l : List Nat} : a ∈ l.foldr insertAsc [] ↔ a ∈ l := by
  induction l with
  | nil => simp
  | cons n l ih => simp [mem_insertAsc_iff, ih]

theorem pairwise_foldr_insertAsc (l : List Nat) : (l.foldr insertAsc []).Pairwise (· < ·) := by
  induction l with
  | nil => simp
  | cons n l ih => exact pairwise_insertAsc ih

/-! ### The columns of a cell word (R5) -/

theorem CellWord.mem_columns_iff {c : CellWord} {cx : Nat} : cx ∈ c.columns ↔ cx / 16 = c.index := by
  simp only [CellWord.columns, List.mem_map, List.mem_range]
  constructor
  · rintro ⟨k, hk, rfl⟩
    omega
  · intro h
    exact ⟨cx % 16, by omega, by omega⟩

theorem CellWord.pairwise_columns (c : CellWord) : c.columns.Pairwise (· < ·) :=
  List.pairwise_lt_range.map _ fun _ _ h => Nat.add_lt_add_left h _

/-- The columns of a cell word of the panel, among the 512 of a line. -/
theorem CellWord.columns_eq_filter {c : CellWord} (h : c.index < 32) :
    c.columns = (List.range 512).filter fun cx => decide (cx / 16 = c.index) := by
  refine c.pairwise_columns.eq_of_mem_iff (List.pairwise_lt_range.filter _) fun cx => ?_
  rw [c.mem_columns_iff, List.mem_filter, List.mem_range, decide_eq_true_eq]
  omega

/-! ### The picture words a cell word samples (R8) -/

theorem ParamSet.isMargin_iff {p : ParamSet} {cx cy : Nat} :
    p.isMargin cx cy = true ↔ p.width ≤ p.sampleX cx ∨ p.height ≤ p.sampleY cy := by
  simp [ParamSet.isMargin]

theorem ParamSet.isMargin_eq_false_iff {p : ParamSet} {cx cy : Nat} :
    p.isMargin cx cy = false ↔ p.sampleX cx < p.width ∧ p.sampleY cy < p.height := by
  simp [ParamSet.isMargin]

/-- A word of the picture area has an 18-bit address. -/
theorem ParamSet.Valid.sampledWord_lt {p : ParamSet} {straps : BitVec 2} (v : p.Valid straps) {cx cy : Nat}
    (h : p.isMargin cx cy = false) : p.sampledWord cx cy < 2 ^ 18 := by
  obtain ⟨hx, hy⟩ := ParamSet.isMargin_eq_false_iff.1 h
  have hw := v.wordIndex_lt hx
  have hrow : (p.sampleY cy + 1) * p.pitch ≤ p.height * p.pitch := Nat.mul_le_mul_right _ hy
  have htop := v.height.2.2
  rw [Nat.succ_mul] at hrow
  rw [ParamSet.sampledWord]
  omega

/-- The word numbers a cell word samples, before they are made addresses. -/
def ParamSet.sampledNumbers (p : ParamSet) (c : CellWord) : List Nat :=
  ((c.columns.filter fun cx => !p.isMargin cx c.line).map fun cx => p.sampledWord cx c.line).foldr insertAsc []

theorem ParamSet.sampledWords_eq (p : ParamSet) (c : CellWord) :
    p.sampledWords c = (p.sampledNumbers c).map (BitVec.ofNat 18) := rfl

theorem ParamSet.mem_sampledNumbers_iff {p : ParamSet} {c : CellWord} {a : Nat} :
    a ∈ p.sampledNumbers c ↔ ∃ cx, cx / 16 = c.index ∧ p.isMargin cx c.line = false ∧ p.sampledWord cx c.line = a := by
  simp [ParamSet.sampledNumbers, mem_foldr_insertAsc_iff, CellWord.mem_columns_iff, and_assoc]

theorem ParamSet.Valid.sampledNumbers_lt {p : ParamSet} {straps : BitVec 2} (v : p.Valid straps) {c : CellWord} {a : Nat}
    (h : a ∈ p.sampledNumbers c) : a < 2 ^ 18 := by
  obtain ⟨cx, -, hin, rfl⟩ := ParamSet.mem_sampledNumbers_iff.1 h
  exact v.sampledWord_lt hin

theorem ParamSet.Valid.mem_sampledWords_iff {p : ParamSet} {straps : BitVec 2} (v : p.Valid straps) {c : CellWord}
    {a : Addr} : a ∈ p.sampledWords c ↔
      ∃ cx, cx / 16 = c.index ∧ p.isMargin cx c.line = false ∧ a.toNat = p.sampledWord cx c.line := by
  rw [ParamSet.sampledWords_eq, List.mem_map]
  constructor
  · rintro ⟨n, hn, rfl⟩
    obtain ⟨cx, hcx, hin, rfl⟩ := ParamSet.mem_sampledNumbers_iff.1 hn
    exact ⟨cx, hcx, hin, by rw [BitVec.toNat_ofNat, Nat.mod_eq_of_lt (v.sampledWord_lt hin)]⟩
  · rintro ⟨cx, hcx, hin, ha⟩
    exact ⟨a.toNat, ParamSet.mem_sampledNumbers_iff.2 ⟨cx, hcx, hin, ha.symm⟩, BitVec.ofNat_toNat _ a⟩

theorem ParamSet.Valid.pairwise_sampledWords {p : ParamSet} {straps : BitVec 2} (v : p.Valid straps) (c : CellWord) :
    (p.sampledWords c).Pairwise fun a b => a.toNat < b.toNat := by
  rw [ParamSet.sampledWords_eq, List.pairwise_map]
  refine (pairwise_foldr_insertAsc _).imp_of_mem fun {a b} ha hb hlt => ?_
  rwa [BitVec.toNat_ofNat, BitVec.toNat_ofNat, Nat.mod_eq_of_lt (v.sampledNumbers_lt ha),
    Nat.mod_eq_of_lt (v.sampledNumbers_lt hb)]

/-! ### Beginning a cell word (R42–R45) -/

theorem State.roomInQueue_iff {s : State} : s.roomInQueue = true ↔ s.queue.length ≤ 240 :=
  decide_eq_true_iff

theorem State.beginCapture_of_room {s : State} (h : s.queue.length ≤ 240) (r : CaptureRecord) (c : CellWord)
    (rest : List CellWord) : s.beginCapture r c rest =
      (s.withItem (some (.capture r c rest .cellRead))).askRender (.readCell (s.standing.cellAddress c)) :=
  if_pos (State.roomInQueue_iff.2 h)

theorem State.beginCapture_of_full {s : State} (h : 240 < s.queue.length) (r : CaptureRecord) (c : CellWord)
    (rest : List CellWord) : s.beginCapture r c rest = s.withItem (some (.capture r c rest .freeWait)) :=
  if_neg (by rw [State.roomInQueue_iff]; omega)

theorem State.beginResweep_of_room {s : State} (h : s.queue.length ≤ 240) (c : CellWord) :
    s.beginResweep c = s.resweepRead c [] (s.standing.sampledWords c) :=
  if_pos (State.roomInQueue_iff.2 h)

theorem State.beginResweep_of_full {s : State} (h : 240 < s.queue.length) (c : CellWord) :
    s.beginResweep c = s.withItem (some (.resweep c [] (s.standing.sampledWords c) .freeWait)) :=
  if_neg (by rw [State.roomInQueue_iff]; omega)

theorem rowFreeEntryWaitEnd_capture {s : State} (hq : s.queue.length ≤ 240) {r : CaptureRecord} {c : CellWord}
    {rest : List CellWord} (hi : s.render.item = some (.capture r c rest .freeWait)) :
    rowFreeEntryWaitEnd s = some (s.beginCapture r c rest) := by
  rw [rowFreeEntryWaitEnd, if_pos (State.roomInQueue_iff.2 hq), hi]

theorem rowFreeEntryWaitEnd_resweep {s : State} (hq : s.queue.length ≤ 240) {c : CellWord} {got : List (Addr × Word)}
    {toRead : List Addr} (hi : s.render.item = some (.resweep c got toRead .freeWait)) :
    rowFreeEntryWaitEnd s = some (s.resweepRead c got toRead) := by
  rw [rowFreeEntryWaitEnd, if_pos (State.roomInQueue_iff.2 hq), hi]

/-- FREE_ENTRY_WAIT_END is itself a step due at once: it waits for nothing. -/
theorem exec_freeEntryWaitEnd_of_some {s t : State} (hp : s.por = false) (h : rowFreeEntryWaitEnd s = some t) :
    exec .freeEntryWaitEnd s = .next t.afterEvent :=
  occur_of_some (due := dueNone) rfl ((running_of_not_por hp).trans h)

/-- Settles O25: the words sampled, then the beginning of a cell word by the room in the queue. -/
theorem aCellWordBeginsWhenTheQueueHasRoom : Obligations.ACellWordBeginsWhenTheQueueHasRoom := by
  refine ⟨fun p straps c v _ _ => ?_, fun s r c rest => ⟨rfl, fun hq => ?_, fun hq => ?_⟩,
    fun s c => ⟨fun hq => ?_, fun hq hw => ?_, fun a more hq hw => ?_⟩, fun s hp hq => ⟨fun r c rest hi => ?_,
    fun c got hi => ?_, fun c got a more hi => ?_⟩⟩
  · intro n py
    have hn : n = p.format.perWord := rfl
    refine ⟨fun a => ?_, v.pairwise_sampledWords c⟩
    rw [v.mem_sampledWords_iff, hn]
    simp only [ParamSet.isMargin_eq_false_iff]
    constructor
    · rintro ⟨cx, hcx, ⟨hx, hy⟩, ha⟩
      exact ⟨hy, cx, hcx, hx, ha⟩
    · rintro ⟨hy, cx, hcx, hx, ha⟩
      exact ⟨cx, hcx, ⟨hx, hy⟩, ha⟩
  · exact State.beginCapture_of_room hq r c rest
  · exact State.beginCapture_of_full hq r c rest
  · exact State.beginResweep_of_full hq c
  · rw [State.beginResweep_of_room hq, hw]; rfl
  · rw [State.beginResweep_of_room hq, hw]; rfl
  · rw [exec_freeEntryWaitEnd_of_some hp (rowFreeEntryWaitEnd_capture hq hi), State.beginCapture_of_room hq]; rfl
  · exact exec_freeEntryWaitEnd_of_some hp (rowFreeEntryWaitEnd_resweep hq hi)
  · exact exec_freeEntryWaitEnd_of_some hp (rowFreeEntryWaitEnd_resweep hq hi)

/-! ### Pixel values (R3) -/

theorem pixelAt_tone4 (w : Word) (k : Nat) : pixelAt .tone4 w k = (w.extractLsb' (12 - 4 * k) 4).toNat := by
  rw [BitVec.extractLsb'_toNat, Nat.shiftRight_eq_div_pow]
  rfl

theorem pixelAt_dot1 (w : Word) (k : Nat) : pixelAt .dot1 w k = if w.getLsbD (15 - k) = true then 1 else 0 := by
  have hbit : pixelAt .dot1 w k = (w.getLsbD (15 - k)).toNat := (Nat.toNat_testBit _ _).symm
  rw [hbit]
  cases w.getLsbD (15 - k) <;> rfl

/-! ### The targets of an item (R26, R27) -/

/-- A margin cell takes the margin level whatever value the picture holds. -/
theorem ParamSet.target_of_isMargin {p : ParamSet} {cx cy : Nat} (h : p.isMargin cx cy = true) (v w : Nat) :
    p.target cx cy v = p.target cx cy w := by
  simp only [ParamSet.target, if_pos h]

/-- Of the words read, the one at an address that was read once. -/
theorem wordRead_of_mem {got : List (Addr × Word)} {a : Addr} {w : Word} (hd : (got.map (·.1)).Nodup)
    (h : (a, w) ∈ got) : wordRead got a = w := by
  induction got with
  | nil => cases h
  | cons x got ih =>
    obtain ⟨b, u⟩ := x
    obtain ⟨hb, hd⟩ := List.nodup_cons.1 hd
    rcases List.mem_cons.1 h with e | h
    · cases e; simp [wordRead]
    · have hne : b ≠ a := fun e => hb (List.mem_map.2 ⟨_, h, e.symm⟩)
      have := ih hd h
      simpa [wordRead, hne] using this

theorem RenderItem.targets_capture_of_none {p : ParamSet} {r : CaptureRecord} (h : p.rectangle r = none) (c : CellWord)
    (rest : List CellWord) (stage : CellStep) : (RenderItem.capture r c rest stage).targets p = [] := by
  simp only [RenderItem.targets, h]

theorem RenderItem.targets_capture_of_some {p : ParamSet} {r : CaptureRecord} {q : Rect} (h : p.rectangle r = some q)
    (c : CellWord) (rest : List CellWord) (stage : CellStep) : (RenderItem.capture r c rest stage).targets p =
      (c.columns.filter fun cx => decide (q.column0 ≤ cx) && decide (cx ≤ q.column1)).map fun cx =>
        (cx, p.target cx c.line (p.valueFrom cx r.data)) := by
  simp only [RenderItem.targets, h]

theorem RenderItem.targets_resweep (p : ParamSet) (c : CellWord) (got : List (Addr × Word)) (toRead : List Addr)
    (stage : CellStep) : (RenderItem.resweep c got toRead stage).targets p = c.columns.map fun cx =>
      (cx, p.target cx c.line (p.valueFrom cx (wordRead got (BitVec.ofNat 18 (p.sampledWord cx c.line))))) := rfl

/-! ### CELL_WORD_READ_DONE (R43, R46) -/

/-- The row waits for every due step. -/
theorem exec_cellWordReadDone_of_some {s t : State} (hs : s.Ready) (h : rowCellWordReadDone s = some t) :
    exec .cellWordReadDone s = .next t.afterEvent :=
  occur_of_some hs.2 ((running_of_not_por hs.1).trans h)

theorem rowCellWordReadDone_abandoned {s : State} {a : Addr}
    (h : s.port.current = some (.render (.readCell a) false)) : rowCellWordReadDone s = some s.endGrant := by
  rw [rowCellWordReadDone, h]

theorem rowCellWordReadDone_owned {s : State} {a : Addr} {i : RenderItem} {c : CellWord}
    (h : s.port.current = some (.render (.readCell a) true)) (hi : s.render.item = some i)
    (hr : i.readingCell = true) (hc : i.cell? = some c) :
    rowCellWordReadDone s = some (s.endGrant.compareCell i c a (s.readWord a)) := by
  simp only [rowCellWordReadDone, h, hi, if_pos hr, hc, Option.map_some]

section
variable {s : State} {a : Addr} {i : RenderItem} {c : CellWord}

theorem State.compareCell_changed {w : Word}
    (h : (compareTargets c.line (i.targets s.standing) s.queue w).2 ≠ w) : s.compareCell i c a w =
      let out := compareTargets c.line (i.targets s.standing) s.queue w
      (({ s with queue := out.1 } : State).withItem (some (i.writingBack out.2))).askRender (.writeBack a out.2) :=
  if_neg h

theorem State.compareCell_unchanged {w : Word}
    (h : (compareTargets c.line (i.targets s.standing) s.queue w).2 = w) : s.compareCell i c a w =
      ({ s with queue := (compareTargets c.line (i.targets s.standing) s.queue w).1 } : State).cellWordDone i :=
  if_pos h

/-- R43 step 4: a changed working copy is to be written back. -/
theorem exec_cellWordReadDone_changed (hs : s.Ready) (h : s.port.current = some (.render (.readCell a) true))
    (hi : s.render.item = some i) (hr : i.readingCell = true) (hc : i.cell? = some c)
    (hne : (compareTargets c.line (i.targets s.standing) s.queue (s.readWord a)).2 ≠ s.readWord a) :
    exec .cellWordReadDone s =
      let out := compareTargets c.line (i.targets s.standing) s.queue (s.readWord a)
      .next (State.afterEvent ((({ s.endGrant with queue := out.1 } : State).withItem
        (some (i.writingBack out.2))).askRender (.writeBack a out.2))) := by
  rw [exec_cellWordReadDone_of_some hs (rowCellWordReadDone_owned h hi hr hc),
    State.compareCell_changed (s := s.endGrant) hne]
  rfl

/-- R43 step 4: an unchanged working copy ends the cell word without a write. -/
theorem exec_cellWordReadDone_unchanged (hs : s.Ready) (h : s.port.current = some (.render (.readCell a) true))
    (hi : s.render.item = some i) (hr : i.readingCell = true) (hc : i.cell? = some c)
    (heq : (compareTargets c.line (i.targets s.standing) s.queue (s.readWord a)).2 = s.readWord a) :
    exec .cellWordReadDone s =
      let out := compareTargets c.line (i.targets s.standing) s.queue (s.readWord a)
      .next (State.afterEvent (({ s.endGrant with queue := out.1 } : State).cellWordDone i)) := by
  rw [exec_cellWordReadDone_of_some hs (rowCellWordReadDone_owned h hi hr hc),
    State.compareCell_unchanged (s := s.endGrant) heq]
  rfl

end

/-- Settles O29: the targets are those of the columns of the cell word, and the row compares them. -/
theorem aCellWordIsComparedWithItsTargets : Obligations.ACellWordIsComparedWithItsTargets := by
  refine ⟨fun p c hc => ?_, fun s a hs => ?_⟩
  · intro n px py value columns
    have hn : n = p.format.perWord := rfl
    have hvalue (w : Word) (cx : Nat) : p.valueFrom cx w = value w cx := by
      unfold value ParamSet.valueFrom
      cases p.format with
      | tone4 => exact pixelAt_tone4 w _
      | dot1 => exact pixelAt_dot1 w _
    have hcolumns : c.columns = columns := CellWord.columns_eq_filter hc
    refine ⟨fun r rest stage => ⟨fun hr => RenderItem.targets_capture_of_none hr c rest stage, fun q hr => ?_⟩,
      fun got toRead stage => ?_⟩
    · rw [RenderItem.targets_capture_of_some hr, hcolumns]
      refine ⟨?_, fun x hx => ?_⟩
      · rw [List.map_map]; exact List.map_id _
      · obtain ⟨cx, -, rfl⟩ := List.mem_map.1 hx
        rw [hvalue]
    · rw [RenderItem.targets_resweep, hcolumns]
      refine ⟨?_, fun x hx => ?_⟩
      · rw [List.map_map]; exact List.map_id _
      · obtain ⟨cx, -, rfl⟩ := List.mem_map.1 hx
        refine ⟨fun hout => ParamSet.target_of_isMargin (ParamSet.isMargin_iff.2 hout) _ _, fun w hd hw => ?_⟩
        rw [hn] at hw
        rw [hvalue, ParamSet.sampledWord]
        exact congrArg (fun u => p.target cx c.line (value u cx)) (wordRead_of_mem hd hw)
  · intro ended
    exact ⟨fun hg => exec_cellWordReadDone_of_some hs (rowCellWordReadDone_abandoned hg), fun hg =>
      ⟨fun r c rest hi => ⟨exec_cellWordReadDone_changed hs hg hi rfl rfl,
          exec_cellWordReadDone_unchanged hs hg hi rfl rfl⟩,
        fun c got toRead hi => ⟨exec_cellWordReadDone_changed hs hg hi rfl rfl,
          exec_cellWordReadDone_unchanged hs hg hi rfl rfl⟩⟩⟩

end Sys2Proof.Machine
end

section
/-! PROOFS. The target dot (spec/02): the level of a cell, the threshold it is held against, and the cursor. -/

namespace Sys2Proof.Machine

/-! ### Level and threshold (R19, R20, R22, R23) -/

theorem entry_le {n b : Nat} {v : Vector Nat n} (h : ∀ i : Fin n, v[i] ≤ b) (i : Nat) : entry v i 0 ≤ b := by
  rw [entry, List.getD_eq_getElem?_getD]
  rcases lt_or_ge i v.toList.length with hi | hi
  · have hn : i < n := by simpa using hi
    simpa [List.getElem?_eq_getElem hi] using h ⟨i, hn⟩
  · simp [List.getElem?_eq_none hi]

/-- The level of a cell whose sampled pixel has value `value`: the margin level outside the picture. -/
def ParamSet.cellLevel (p : ParamSet) (cx cy value : Nat) : Nat :=
  if p.width ≤ p.sampleX cx ∨ p.height ≤ p.sampleY cy then p.margin else p.level value

/-- The number that a cell's level has to exceed for a lit dot: the matrix is indexed by the cell's place on the panel. -/
def ParamSet.threshold (p : ParamSet) (cx cy : Nat) : Nat :=
  match p.ditherMode with
  | .ordered => entry p.matrix (4 * (cy % 4) + cx % 4) 0
  | .fixed => p.fixedThreshold

theorem ParamSet.Valid.threshold_le {p : ParamSet} {straps : BitVec 2} (v : p.Valid straps) (cx cy : Nat) :
    p.threshold cx cy ≤ 15 := by
  obtain ⟨hfixed, hmatrix⟩ := v.dither
  unfold ParamSet.threshold
  cases p.ditherMode with
  | ordered => exact entry_le hmatrix _
  | fixed => exact hfixed

/-! ### Dot, cursor and target (R22–R26) -/

theorem ParamSet.dot_iff {p : ParamSet} {cx cy level : Nat} : p.dot cx cy level = true ↔ p.threshold cx cy < level := by
  unfold ParamSet.dot ParamSet.threshold
  cases p.ditherMode <;> exact decide_eq_true_iff

theorem ParamSet.inCursor_iff {p : ParamSet} {cx cy : Nat} :
    p.inCursor cx cy = true ↔ (p.cursorLine ≤ cy ∧ cy < p.cursorLine + p.thicknessH) ∨
      (p.cursorColumn ≤ cx ∧ cx < p.cursorColumn + p.thicknessV) := by
  simp [ParamSet.inCursor, ParamSet.inBarH, ParamSet.inBarV]

theorem ParamSet.target_eq (p : ParamSet) (cx cy value : Nat) :
    p.target cx cy value = (p.dot cx cy (p.cellLevel cx cy value)).xor (p.inCursor cx cy) := by
  simp only [ParamSet.target, ParamSet.cellLevel, ParamSet.isMargin_iff]

/-- R26: outside the cursor the target is the dot of the cell's level. -/
theorem ParamSet.target_of_not_inCursor {p : ParamSet} {cx cy : Nat} (h : ¬p.inCursor cx cy = true) (value : Nat) :
    p.target cx cy value = true ↔ p.threshold cx cy < p.cellLevel cx cy value := by
  rw [p.target_eq, Bool.eq_false_of_not_eq_true h, Bool.xor_false, ParamSet.dot_iff]

/-- R25: in the cursor the dot is inverted. -/
theorem ParamSet.target_of_inCursor {p : ParamSet} {cx cy : Nat} (h : p.inCursor cx cy = true) (value : Nat) :
    p.target cx cy value = true ↔ ¬p.threshold cx cy < p.cellLevel cx cy value := by
  rw [p.target_eq, h, Bool.xor_true, Bool.not_eq_true', ← Bool.not_eq_true, ParamSet.dot_iff]

theorem ParamSet.target_iff {p : ParamSet} {cx cy value : Nat} : p.target cx cy value = true ↔
    (p.threshold cx cy < p.cellLevel cx cy value ∧ ¬p.inCursor cx cy = true) ∨
    (¬p.threshold cx cy < p.cellLevel cx cy value ∧ p.inCursor cx cy = true) := by
  by_cases h : p.inCursor cx cy = true
  · simp [ParamSet.target_of_inCursor h, h]
  · simp [ParamSet.target_of_not_inCursor h, h]

/-- Level 0 exceeds no threshold. -/
theorem ParamSet.target_of_cellLevel_zero {p : ParamSet} {cx cy value : Nat} (hc : ¬p.inCursor cx cy = true)
    (h : p.cellLevel cx cy value = 0) : p.target cx cy value = false := by
  rw [← Bool.not_eq_true, ParamSet.target_of_not_inCursor hc, h]
  exact Nat.not_lt_zero _

/-- Level 16 exceeds every threshold of a valid set. -/
theorem ParamSet.Valid.target_of_cellLevel_sixteen {p : ParamSet} {straps : BitVec 2} (v : p.Valid straps)
    {cx cy value : Nat} (hc : ¬p.inCursor cx cy = true) (h : p.cellLevel cx cy value = 16) :
    p.target cx cy value = true := by
  rw [ParamSet.target_of_not_inCursor hc, h]
  exact Nat.lt_succ_of_le (v.threshold_le cx cy)

/-- Settles O53: inside and outside the cursor, then the two extreme levels against thresholds of at most 15. -/
theorem theTargetDotFollowsTheStandingSet : Obligations.TheTargetDotFollowsTheStandingSet := by
  intro p straps cx cy value v _ _ _ px py level threshold inCursor
  have hlevel : p.cellLevel cx cy value = level := rfl
  have hthreshold : p.threshold cx cy = threshold := rfl
  have hcursor : p.inCursor cx cy = true ↔ inCursor := ParamSet.inCursor_iff
  rw [← hlevel, ← hthreshold, ← hcursor]
  exact ⟨ParamSet.target_iff, ParamSet.target_of_cellLevel_zero, v.target_of_cellLevel_sixteen⟩

end Sys2Proof.Machine
end

section
/-! PROOFS. What each row of the table can do, said once: when it comes about and the state it makes. Every invariant of
the part is proved from these. -/

namespace Sys2Proof.Machine

variable {s t : State}

/-! ### The bus passage (R51–R66) -/

theorem State.needsPlace_lit {a : Addr} {l : Option Lanes} (h : s.needsPlace a l = true) : s.seq.panel = .lit := by
  simp only [State.needsPlace, Bool.and_eq_true, decide_eq_true_eq] at h
  exact h.1.1

theorem rowBusRead_cases {a : Addr} (h : rowBusRead a s = some t) :
    s.passage.inHand = none ∧ (t = s.present (.read a) ∨ (s.por = false ∧ t = s.takeRead a)) := by
  unfold rowBusRead at h
  split at h
  · cases h
  · rename_i hn
    refine ⟨by simpa using hn, ?_⟩
    split at h <;> cases h
    · exact .inl rfl
    · rename_i hp; simp at hp; exact .inr ⟨hp.1, rfl⟩

theorem rowBusWrite_cases {a : Addr} {u b : Bool} {w : Word} (h : rowBusWrite a u b w s = some t) :
    s.passage.inHand = none ∧ (t = s.present (.write a u b w) ∨ (s.por = false ∧ t = s.takeWrite a u b w)) := by
  unfold rowBusWrite at h
  split at h
  · cases h
  · rename_i hn
    refine ⟨by simpa using hn, ?_⟩
    split at h <;> cases h
    · exact .inl rfl
    · rename_i hp; simp at hp; exact .inr ⟨hp.1, rfl⟩

theorem takePresented_cases (h : takePresented s = some t) :
    s.passage.inHand = none ∧ ((∃ a, t = s.takeRead a) ∨ ∃ a u b w, t = s.takeWrite a u b w) := by
  unfold takePresented at h
  split at h
  · cases h
  · rename_i hn
    refine ⟨by simp at hn; exact hn.2, ?_⟩
    split at h <;> cases h
    exacts [.inl ⟨_, rfl⟩, .inr ⟨_, _, _, _, rfl⟩]

/-- R58, R61: the guard decision of a write that is taken. -/
theorem State.takeWrite_cases (s : State) (a : Addr) (u b : Bool) (w : Word) :
    s.takeWrite a u b w = (s.holdWrite a (lanesOf u b) w .unplaced none).askPassthrough ∨
    (s.seq.panel = .lit ∧ s.capture.hasFree = true ∧ s.takeWrite a u b w =
      (({ s with capture := s.capture.reserve } : State).holdWrite a (lanesOf u b) w .placed none).askPassthrough) ∨
    s.takeWrite a u b w = (s.holdWrite a (lanesOf u b) w .expired none).askPassthrough ∨
    (s.seq.panel = .lit ∧ s.takeWrite a u b w = s.holdWrite a (lanesOf u b) w .held (some s.standing.stallLimit)) := by
  unfold State.takeWrite
  dsimp only
  split
  · exact .inl rfl
  · rename_i hn
    have hlit : s.seq.panel = .lit := State.needsPlace_lit (by simpa using hn)
    split
    · exact .inr (.inl ⟨hlit, ‹_›, rfl⟩)
    · split
      · exact .inr (.inr (.inl rfl))
      · exact .inr (.inr (.inr ⟨hlit, rfl⟩))

theorem rowStallExpiry_cases (h : rowStallExpiry s = some t) :
    ∃ a l w, s.passage.inHand = some (.write a l w .held) ∧ t = (s.holdWrite a l w .expired none).askPassthrough := by
  unfold rowStallExpiry at h
  split at h
  · cases h; exact ⟨_, _, _, ‹_›, rfl⟩
  · cases h

theorem rowHeldWritePlaced_cases (h : rowHeldWritePlaced s = some t) :
    ∃ a l w, s.passage.inHand = some (.write a l w .held) ∧ s.capture.hasFree = true ∧
      t = (({ s with capture := s.capture.reserve } : State).holdWrite a l w .placed none).askPassthrough := by
  unfold rowHeldWritePlaced at h
  split at h
  · split at h
    · cases h; exact ⟨_, _, _, ‹_›, ‹_›, rfl⟩
    · cases h
  · cases h

theorem rowPassthroughReadDone_cases (h : rowPassthroughReadDone s = some t) :
    ∃ a, s.port.current = some .passthrough ∧ s.passage.inHand = some (.read a) ∧
      t = { s.endGrant.endCycle with passage := { s.endGrant.endCycle.passage with busData := s.readWord a } } := by
  unfold rowPassthroughReadDone at h
  split at h
  · cases h; exact ⟨_, ‹_›, ‹_›, rfl⟩
  · cases h

theorem rowPassthroughWriteDone_cases (h : rowPassthroughWriteDone s = some t) :
    ∃ a lanes w d, s.port.current = some .passthrough ∧ s.passage.inHand = some (.write a lanes w d) ∧
      ((lanes = none ∧ t = { s.endGrant.endCycle with capture := s.capture.release d }) ∨
        ∃ l, lanes = some l ∧ t = s.endGrant.endCycle.busWritten a l w d) := by
  unfold rowPassthroughWriteDone at h
  split at h
  · dsimp only at h
    split at h <;> cases h
    · exact ⟨_, _, _, _, ‹_›, ‹_›, .inl ⟨rfl, rfl⟩⟩
    · exact ⟨_, _, _, _, ‹_›, ‹_›, .inr ⟨_, rfl, rfl⟩⟩
  · cases h

/-! ### The control block (R139, R145) -/

theorem rowStagedWrite_cases (h : rowStagedWrite s = some t) : ∃ o rest,
    t = { s.takeHandOver o rest with control := (s.takeHandOver o rest).control.latch o } := by
  unfold rowStagedWrite at h
  split at h
  · cases h
  · split at h
    · cases h
    · cases h; exact ⟨_, _, rfl⟩

/-- What a command keeps, with the take of its hand-over and the record of its outcome, its row keeps. -/
theorem commandRow_keeps {P : State → Prop} {isMine : Byte → Bool} {act : State → State × CommandOutcome}
    (htake : ∀ {s}, P s → ∀ o rest, P (s.takeHandOver o rest))
    (hrecord : ∀ {s}, P s → ∀ code o, P (s.recordCommand code o)) (hact : ∀ {s}, P s → P (act s).1)
    (h : commandRow isMine act s = some t) (hs : P s) : P t := by
  obtain ⟨o, rest, -, -, -, rfl⟩ := commandRow_cases h
  exact hrecord (hact (htake hs o rest)) _ _

theorem State.doCommit_cases (s : State) : s.doCommit.1 = s ∨
    s.doCommit.1 = { s with control := { s.control with clampSet := s.control.candidateClamps } } ∨
    (s.control.candidatePasses s.straps = true ∧ s.doCommit.1 = { s with control := { s.control with
      clampSet := s.control.candidateClamps, checked := some s.control.candidate } }) := by
  unfold State.doCommit
  split
  · exact .inl rfl
  · dsimp only
    split
    · exact .inr (.inr ⟨‹_›, rfl⟩)
    · exact .inr (.inl rfl)

theorem State.doRestart_cases (s : State) : s.doRestart.1 = s ∨ (s.seq.panel = .dark ∧ s.doRestart.1 = s.enterCharging) ∨
    ((s.seq.panel = .clearing ∨ s.seq.panel = .lit) ∧ s.doRestart.1 = s.softRestart) := by
  unfold State.doRestart
  split <;> simp_all

theorem State.doStop_cases (s : State) : s.doStop.1 = s ∨ s.doStop.1 = s.enterDark := by
  unfold State.doStop
  split <;> simp

/-- R110: CLEAR FAULTS moves the fault set, and in DARK the group sets. -/
theorem State.doClearFaults_cases (s : State) : ∃ f,
    (s.seq.panel = .dark ∧ s.doClearFaults.1 =
      { s with seq := { s.seq with strikeX := 0, strikeY := 0, outX := 0, outY := 0, faults := f } }) ∨
    s.doClearFaults.1 = { s with seq := { s.seq with faults := f } } := by
  unfold State.doClearFaults
  dsimp only
  split
  · exact ⟨_, .inl ⟨‹_›, rfl⟩⟩
  · exact ⟨_, .inr rfl⟩

theorem State.doStartCopy_cases (s : State) : s.doStartCopy.1 = s ∨
    (s.copy.outcome ≠ .active ∧ s.doStartCopy.1 = s.startCopy s.control.copyRequest) := by
  unfold State.doStartCopy
  split
  · exact .inl rfl
  · split
    · exact .inr ⟨‹_›, rfl⟩
    · exact .inl rfl

theorem State.doCancelCopy_cases (s : State) : s.doCancelCopy.1 = s ∨
    (s.copy.outcome = .active ∧ s.copy.cancelling = false ∧
      ((s.port.copying = true ∧ s.doCancelCopy.1 = { s with copy := { s.copy with cancelling := true } }) ∨
        (s.port.copying = false ∧ s.doCancelCopy.1 = ({ s with
          port := { s.port with copyWaiting := none }
          capture := s.capture.release s.copy.decision } : State).endCopy .cancelled))) := by
  unfold State.doCancelCopy
  split
  · exact .inl rfl
  · rename_i ha
    split
    · exact .inl rfl
    · rename_i hc
      split
      · exact .inr ⟨by simpa using ha, by simpa using hc, .inl ⟨‹_›, rfl⟩⟩
      · rename_i hg
        exact .inr ⟨by simpa using ha, by simpa using hc, .inr ⟨by simpa using hg, rfl⟩⟩

theorem State.doResweepAll_cases (s : State) : s.doResweepAll.1 = s ∨
    s.doResweepAll.1 = { s with stale := s.stale.mark (fun _ => true) s.capture.records.length } := by
  unfold State.doResweepAll
  split
  · exact .inr rfl
  · exact .inl rfl

/-! ### The render stage (R39–R47) -/

/-- The state at an applied commit, before the soft restart that a moved plane brings (R143). -/
def State.commitApplied (s : State) (new : ParamSet) : State :=
  ({ s with
    standing := new
    control := { s.control with checked := none }
    stale := s.stale.mark (s.standing.commitMarks new) s.capture.records.length
    address := s.address.applyCommit s.standing new
    seq := s.seq.remask s.standing new } : State).decideAtn

theorem rowCommitApply_eq {new : ParamSet} (hi : s.render.item = none) (hc : s.control.checked = some new) :
    rowCommitApply s = some (if s.standing.planeBlock ≠ new.planeBlock ∧ s.seq.panel.addressed = true then
      (s.commitApplied new).softRestart else s.commitApplied new) := by
  rw [rowCommitApply, hi, hc]
  rfl

theorem rowCommitApply_cases (h : rowCommitApply s = some t) : ∃ new, s.render.item = none ∧
    s.control.checked = some new ∧
      ((s.standing.planeBlock ≠ new.planeBlock ∧ s.seq.panel.addressed = true ∧ t = (s.commitApplied new).softRestart) ∨
        (¬(s.standing.planeBlock ≠ new.planeBlock ∧ s.seq.panel.addressed = true) ∧ t = s.commitApplied new)) := by
  have key : ∃ new, s.render.item = none ∧ s.control.checked = some new := by
    unfold rowCommitApply at h
    split at h
    · exact ⟨_, ‹_›, ‹_›⟩
    · cases h
  obtain ⟨new, hi, hc⟩ := key
  rw [rowCommitApply_eq hi hc] at h
  refine ⟨new, hi, hc, ?_⟩
  split at h <;> cases h
  · rename_i hm; exact .inl ⟨hm.1, hm.2, rfl⟩
  · exact .inr ⟨‹_›, rfl⟩

theorem State.canChoose_iff : s.canChoose = true ↔
    s.render.item = none ∧ s.control.checked = none ∧ s.port.rendering = false := by
  simp [State.canChoose, and_assoc]

/-- The state at a CAPTURE take that leaves `rest` in the list, before its first cell word begins (R40, R69). -/
def State.captureTaken (s : State) (rest : List CaptureRecord) : State :=
  { s with
    capture := { s.capture with records := rest }
    stale := s.stale.lowerHolds
    render := { s.render with captureCount := min 8 (s.render.captureCount + 1) } }

/-- The state at a RESWEEP take of `c`, before the word begins (R40, R71). -/
def State.resweepTaken (s : State) (c : CellWord) : State :=
  { s with
    stale := s.stale.takeWord c
    render := { s.render with captureCount := 0 } }

theorem rowCaptureItem_cases (h : rowCaptureItem s = some t) : ∃ r rest, s.capture.records = r :: rest ∧
    s.seq.panel = .lit ∧ s.canChoose = true ∧
      t = (s.captureTaken rest).nextCaptureWord r (s.standing.recordWords r) := by
  unfold rowCaptureItem at h
  split at h
  · cases h
  · split at h
    · rename_i hc; cases h; exact ⟨_, _, ‹_›, hc.1, hc.2.1, rfl⟩
    · cases h

theorem rowResweepItem_cases (h : rowResweepItem s = some t) : ∃ c, s.stale.offer = some c ∧
    s.seq.panel = .lit ∧ s.canChoose = true ∧ t = (s.resweepTaken c).beginResweep c := by
  unfold rowResweepItem at h
  split at h
  · cases h
  · split at h
    · rename_i hc; cases h; exact ⟨_, ‹_›, hc.1, hc.2.1, rfl⟩
    · cases h

theorem rowWipeItem_cases (h : rowWipeItem s = some t) : s.seq.panel = .clearing ∧ s.canChoose = true ∧
    s.render.wipePosition < 16384 ∧ t = (s.withItem (some (.wipe s.wipeAddress))).askRender (.wipe s.wipeAddress) := by
  unfold rowWipeItem at h
  split at h
  · rename_i hc; cases h; exact ⟨hc.1, hc.2.1, hc.2.2, rfl⟩
  · cases h

theorem rowFreeEntryWaitEnd_cases (h : rowFreeEntryWaitEnd s = some t) : s.queue.length ≤ 240 ∧
    ((∃ r c rest, s.render.item = some (.capture r c rest .freeWait) ∧ t = s.beginCapture r c rest) ∨
      ∃ c got toRead, s.render.item = some (.resweep c got toRead .freeWait) ∧ t = s.resweepRead c got toRead) := by
  unfold rowFreeEntryWaitEnd at h
  split at h
  · rename_i hq
    refine ⟨State.roomInQueue_iff.1 hq, ?_⟩
    split at h <;> cases h
    · exact .inl ⟨_, _, _, ‹_›, rfl⟩
    · exact .inr ⟨_, _, _, ‹_›, rfl⟩
  · cases h

theorem rowPictureReadDone_cases (h : rowPictureReadDone s = some t) : ∃ a,
    (s.port.current = some (.render (.readPicture a) false) ∧ t = s.endGrant) ∨
    (s.port.current = some (.render (.readPicture a) true) ∧ ∃ c got b more,
      s.render.item = some (.resweep c got (b :: more) .pictureRead) ∧
      t = s.endGrant.resweepRead c (got ++ [(a, s.readWord a)]) more) := by
  unfold rowPictureReadDone at h
  split at h
  · cases h; exact ⟨_, .inl ⟨‹_›, rfl⟩⟩
  · split at h
    · cases h; exact ⟨_, .inr ⟨‹_›, _, _, _, _, ‹_›, rfl⟩⟩
    · cases h
  · cases h

theorem rowCellWordReadDone_cases (h : rowCellWordReadDone s = some t) : ∃ a,
    (s.port.current = some (.render (.readCell a) false) ∧ t = s.endGrant) ∨
    (s.port.current = some (.render (.readCell a) true) ∧ ∃ i c, s.render.item = some i ∧ i.readingCell = true ∧
      i.cell? = some c ∧ t = s.endGrant.compareCell i c a (s.readWord a)) := by
  unfold rowCellWordReadDone at h
  split at h
  · cases h; exact ⟨_, .inl ⟨‹_›, rfl⟩⟩
  · split at h
    · split at h
      · obtain ⟨c, hc, rfl⟩ := Option.map_eq_some_iff.1 h
        exact ⟨_, .inr ⟨‹_›, _, c, ‹_›, ‹_›, hc, rfl⟩⟩
      · cases h
    · cases h
  · cases h

theorem rowWriteBackDone_cases (h : rowWriteBackDone s = some t) : ∃ a w,
    (s.port.current = some (.render (.writeBack a w) false) ∧ t = s.endGrant.writeWord a .both w) ∨
    (s.port.current = some (.render (.writeBack a w) true) ∧ ∃ i, s.render.item = some i ∧
      t = (s.endGrant.writeWord a .both w).cellWordDone i) := by
  unfold rowWriteBackDone at h
  split at h
  · cases h; exact ⟨_, _, .inl ⟨‹_›, rfl⟩⟩
  · obtain ⟨i, hi, rfl⟩ := Option.map_eq_some_iff.1 h
    exact ⟨_, _, .inr ⟨‹_›, i, hi, rfl⟩⟩
  · cases h

/-- The state at the completion of a wipe write, before the wipe is found to be done (R47). -/
def State.wipeWritten (s : State) (a : Addr) : State :=
  { s.endGrant.writeWord a .both 0 with
    render := { s.render with item := none, wipePosition := s.render.wipePosition + 1 } }

theorem rowWipeWriteDone_owned {a : Addr} (hc : s.port.current = some (.render (.wipe a) true)) :
    rowWipeWriteDone s = some (if 16384 ≤ s.render.wipePosition + 1 then (s.wipeWritten a).noteWipe
      else s.wipeWritten a) := by
  rw [rowWipeWriteDone, hc]
  rfl

theorem rowWipeWriteDone_cases (h : rowWipeWriteDone s = some t) : ∃ a,
    (s.port.current = some (.render (.wipe a) false) ∧ t = s.endGrant.writeWord a .both 0) ∨
    (s.port.current = some (.render (.wipe a) true) ∧
      ((s.render.wipePosition + 1 < 16384 ∧ t = s.wipeWritten a) ∨
        (16384 ≤ s.render.wipePosition + 1 ∧ t = (s.wipeWritten a).noteWipe))) := by
  have key : (∃ a, s.port.current = some (.render (.wipe a) false) ∧ t = s.endGrant.writeWord a .both 0) ∨
      ∃ a, s.port.current = some (.render (.wipe a) true) := by
    unfold rowWipeWriteDone at h
    split at h
    · cases h; exact .inl ⟨_, ‹_›, rfl⟩
    · exact .inr ⟨_, ‹_›⟩
    · cases h
  obtain ⟨a, hc, ht⟩ | ⟨a, hc⟩ := key
  · exact ⟨a, .inl ⟨hc, ht⟩⟩
  · rw [rowWipeWriteDone_owned hc] at h
    refine ⟨a, .inr ⟨hc, ?_⟩⟩
    split at h <;> cases h
    · exact .inr ⟨‹_›, rfl⟩
    · exact .inl ⟨by omega, rfl⟩

/-! ### The address stage (R82–R94) -/

/-- What a slot does, by the panel state (R85). -/
theorem State.slot_cases (s : State) : s.slot = s ∨
    (s.seq.panel = .clearing ∧ s.address.globalErases < 8 ∧ s.slot = s.globalErase) ∨
    ∃ head rest, s.seq.panel = .lit ∧ s.queue = head :: rest ∧ s.slot = s.takeBurst head := by
  unfold State.slot
  split
  · split
    · exact .inr (.inl ⟨‹_›, ‹_›, rfl⟩)
    · exact .inl rfl
  · split
    · exact .inl rfl
    · exact .inr (.inr ⟨_, _, ‹_›, ‹_›, rfl⟩)
  all_goals exact .inl rfl

/-- The state at a global erase, before the eighth is found to be done (R94). -/
def State.erasing (s : State) : State :=
  { s with
    address := { s.address with
      globalErases := s.address.globalErases + 1
      pulse := some (s.pulseFor .globalErase) }
    glass := PanelGlass.erased }

theorem State.globalErase_cases (s : State) :
    (s.address.globalErases + 1 ≠ 8 ∧ s.globalErase = s.erasing) ∨
    (s.address.globalErases + 1 = 8 ∧ s.globalErase = s.erasing.noteErases) := by
  unfold State.globalErase
  dsimp only
  split
  · exact .inr ⟨‹_›, rfl⟩
  · exact .inl ⟨‹_›, rfl⟩

/-- R99: the report of the erases in CLEARING is the first completion or the second. -/
theorem State.noteErases_cases (s : State) : (s.seq.panel ≠ .clearing ∧ s.noteErases = s) ∨
    (s.seq.panel = .clearing ∧ s.seq.wipeDone = false ∧
      s.noteErases = { s with seq := { s.seq with erasesDone := true } }) ∨
    (s.seq.panel = .clearing ∧ s.seq.wipeDone = true ∧
      s.noteErases = ({ s with seq := { s.seq with erasesDone := true } } : State).enterLit) := by
  unfold State.noteErases
  split
  · dsimp only
    split
    · exact .inr (.inr ⟨‹_›, ‹_›, rfl⟩)
    · rename_i hn; exact .inr (.inl ⟨‹_›, by simpa using hn, rfl⟩)
  · exact .inl ⟨‹_›, rfl⟩

/-- R99: the report of the wipe in CLEARING is the first completion or the second. -/
theorem State.noteWipe_cases (s : State) : (s.seq.panel ≠ .clearing ∧ s.noteWipe = s) ∨
    (s.seq.panel = .clearing ∧ s.seq.erasesDone = false ∧
      s.noteWipe = { s with seq := { s.seq with wipeDone := true } }) ∨
    (s.seq.panel = .clearing ∧ s.seq.erasesDone = true ∧
      s.noteWipe = ({ s with seq := { s.seq with wipeDone := true } } : State).enterLit) := by
  unfold State.noteWipe
  split
  · dsimp only
    split
    · exact .inr (.inr ⟨‹_›, ‹_›, rfl⟩)
    · rename_i hn; exact .inr (.inl ⟨‹_›, by simpa using hn, rfl⟩)
  · exact .inl ⟨‹_›, rfl⟩

theorem rowSustainCycleStart_cases (h : rowSustainCycleStart s = some t) :
    s.address.running = true ∧ t = s.openCycle.slot := by
  unfold rowSustainCycleStart at h
  split at h
  · rename_i hr; cases h; exact ⟨hr.1, rfl⟩
  · cases h

theorem rowPhaseBStart_cases (h : rowPhaseBStart s = some t) :
    t = { s with address := { s.address with phase := .b } } := by
  unfold rowPhaseBStart at h
  split at h <;> cases h
  rfl

theorem rowAddressPulseStart_cases (h : rowAddressPulseStart s = some t) :
    ∃ p, t = { s with address := { s.address with pulse := some p } } := by
  unfold rowAddressPulseStart at h
  split at h
  · split at h <;> cases h
    exact ⟨_, rfl⟩
  · cases h

theorem rowAddressPulseEnd_cases (h : rowAddressPulseEnd s = some t) :
    t = { s with address := { s.address with pulse := none } } := by
  unfold rowAddressPulseEnd at h
  split at h
  · split at h <;> cases h
    rfl
  · cases h

theorem rowRampTick_cases (h : rowRampTick s = some t) : t = { s with address := { s.address with
    currentA := stepToward s.address.currentA s.standing.phaseA
    currentB := stepToward s.address.currentB s.standing.phaseB } } := by
  unfold rowRampTick at h
  split at h <;> cases h
  rfl

/-! ### The sequencer (R97–R108) -/

/-- The levels and the debounce timers of the fault inputs are set to `hvok` to `timersY`; nothing else moves. -/
theorem rowFaultInputChange_cases {input : FaultInput} {level : Bool} (h : rowFaultInputChange input level s = some t) :
    ∃ hvok hvoc gfx gfy timerHvok timerHvoc timersX timersY, t = { s with seq := { s.seq with
      hvok := hvok, hvoc := hvoc, gfx := gfx, gfy := gfy, debounceHvok := timerHvok, debounceHvoc := timerHvoc
      debounceX := timersX, debounceY := timersY } } := by
  cases input with
  | hvok =>
    simp only [rowFaultInputChange, Option.ite_none_left_eq_some, Option.some.injEq] at h
    obtain ⟨-, rfl⟩ := h
    exact ⟨_, _, _, _, _, _, _, _, rfl⟩
  | hvoc =>
    simp only [rowFaultInputChange, Option.ite_none_left_eq_some, Option.some.injEq] at h
    obtain ⟨-, rfl⟩ := h
    exact ⟨_, _, _, _, _, _, _, _, rfl⟩
  | group axis g =>
    simp only [rowFaultInputChange, Option.ite_none_left_eq_some, Option.some.injEq] at h
    obtain ⟨-, rfl⟩ := h
    cases axis <;> exact ⟨_, _, _, _, _, _, _, _, rfl⟩

theorem rowHvokSeen_cases (h : rowHvokSeen s = some t) : s.seq.panel = .charging ∧ t = s.enterClearing := by
  unfold rowHvokSeen at h
  split at h
  · rename_i hc; cases h; exact ⟨hc.1, rfl⟩
  · cases h

/-- A recovery is for a fault kind, with a strike for a live group before it when the fault is the group's (R108, R109). -/
inductive Sequencer.Struck (p : ParamSet) (q : Sequencer) : Sequencer → Prop
  | none : Struck p q q
  | group (axis : Axis) (g : Nat) : q.groupLive p axis g = true → Struck p q (q.strike axis g)

/-- What a seen fault or a charge timeout does: the part was powered, the fault set takes the kind, and it recovers. -/
def State.Faults (s t : State) : Prop :=
  s.seq.panel.powered = true ∧ ∃ q k, s.seq.Struck s.standing q ∧
    t = (({ s with seq := q } : State).enterFault k).recover

theorem rowHvokLost_cases (h : rowHvokLost s = some t) : s.Faults t := by
  unfold rowHvokLost at h
  split at h
  · rename_i hc; cases h; exact ⟨PanelState.powered_of_addressed hc.1, _, _, .none, rfl⟩
  · cases h

theorem rowHvocSeen_cases (h : rowHvocSeen s = some t) : s.Faults t := by
  unfold rowHvocSeen at h
  split at h
  · rename_i hc; cases h; exact ⟨hc.1, _, _, .none, rfl⟩
  · cases h

theorem rowGroupStrike_cases {axis : Axis} {g : Nat} (h : rowGroupStrike axis g s = some t) : s.Faults t := by
  unfold rowGroupStrike at h
  split at h
  · rename_i hc
    cases h
    have hl : s.seq.groupLive s.standing axis g = true := hc.1
    refine ⟨PanelState.powered_of_addressed ?_, _, _, .group axis g hl, rfl⟩
    simp only [Sequencer.groupLive, Bool.and_eq_true] at hl
    exact hl.1
  · cases h

theorem rowChargeTimeout_cases (h : rowChargeTimeout s = some t) : s.Faults t := by
  unfold rowChargeTimeout at h
  split at h
  · rename_i hc; cases h; exact ⟨by rw [hc.1]; rfl, _, _, .none, rfl⟩
  · cases h

theorem rowRestEnd_cases (h : rowRestEnd s = some t) : s.seq.panel = .resting ∧
    ((s.seq.axisOut = true ∧ t = s.barNoGroups) ∨ (s.seq.axisOut = false ∧ t = s.enterCharging)) := by
  unfold rowRestEnd at h
  split at h
  · rename_i hc
    cases h
    refine ⟨hc.1, ?_⟩
    split
    · exact .inl ⟨‹_›, rfl⟩
    · rename_i hn; exact .inr ⟨by simpa using hn, rfl⟩
  · cases h

theorem rowLitDurationExpiry_cases (h : rowLitDurationExpiry s = some t) : s.seq.panel = .lit ∧
    t = { s with seq := { s.seq with recoveryCount := 0, litTimer := none } } := by
  unfold rowLitDurationExpiry at h
  split at h
  · rename_i hc; cases h; exact ⟨hc.1, rfl⟩
  · cases h

/-! ### The memory port and the report unit (R112–R119, R153–R156) -/

theorem rowRefreshDue_cases (h : rowRefreshDue s = some t) : t = { s with port := { s.port with
    pendingRefresh := true, refreshWaiting := true, refreshTimer := some Config.refreshMicros } } := by
  unfold rowRefreshDue at h
  split at h <;> cases h
  rfl

theorem rowRefreshDone_cases (h : rowRefreshDone s = some t) : s.port.current = some .refresh ∧
    t = { s.endGrant with port := { s.endGrant.port with
      refreshRow := s.port.refreshRow + 1, pendingRefresh := s.port.refreshWaiting } } := by
  unfold rowRefreshDone at h
  split at h <;> cases h
  exact ⟨‹_›, rfl⟩

theorem rowReportBlockGrant_cases (h : rowReportBlockGrant s = some t) :
    s.port.current = some (.reportBlock none) ∧ t = { s with
      report := { s.report with due := false, writeCount := s.report.writeCount + 1, block := .writing }
      port := { s.port with current := some (.reportBlock (some (s.reportWords (s.report.writeCount + 1)))) } } := by
  unfold rowReportBlockGrant at h
  split at h <;> cases h
  exact ⟨‹_›, rfl⟩

theorem rowReportBlockDone_cases (h : rowReportBlockDone s = some t) : ∃ words,
    s.port.current = some (.reportBlock (some words)) ∧
      t = (s.endGrant.writeBlock (controlPageStart s.straps + 240) words).blockIdle := by
  unfold rowReportBlockDone at h
  split at h <;> cases h
  exact ⟨_, ‹_›, rfl⟩

/-- The state at the end of an image grant, with the next image grant asked for or the first report block (R155). -/
theorem rowImageGrantDone_cases (h : rowImageGrantDone s = some t) : ∃ n u, s.port.current = some (.image n) ∧
    u = s.endGrant.writeBlock (controlPageStart s.straps + (imageWords n).1) (imageWords n).2 ∧
    ((n < 4 ∧ t = { u with port := { u.port with reportWaiting := some (.image (n + 1)) } }) ∨ t = u.blockIdle) := by
  unfold rowImageGrantDone at h
  split at h
  · cases h
    refine ⟨_, _, ‹_›, rfl, ?_⟩
    split
    exacts [.inl ⟨‹_›, rfl⟩, .inr rfl]
  · cases h

/-! ### The copy engine (R126–R134) -/

theorem rowCopyReadDone_cases (h : rowCopyReadDone s = some t) : ∃ a,
    (s.port.current = some (.copy (.read a) false) ∧ t = s.endGrant) ∨
    (s.port.current = some (.copy (.read a) true) ∧ s.copy.step = .sourceRead ∧
      ((s.copy.cancelling = true ∧ t = s.endGrant.endCopy .cancelled) ∨
        (s.copy.cancelling = false ∧ t = s.endGrant.beginCopyWrite (s.readWord a)))) := by
  unfold rowCopyReadDone at h
  split at h
  · rename_i a owned hc
    refine ⟨a, ?_⟩
    cases owned with
    | false => cases h; exact .inl ⟨hc, rfl⟩
    | true =>
      simp only [Bool.not_true, Bool.false_eq_true, if_false, Option.ite_none_left_eq_some, not_not] at h
      obtain ⟨hstep, h⟩ := h
      refine .inr ⟨hc, hstep, ?_⟩
      split at h <;> cases h
      · exact .inl ⟨‹_›, rfl⟩
      · rename_i hn; exact .inr ⟨by simpa using hn, rfl⟩
  · cases h

theorem rowCopyPlaceGiven_cases (h : rowCopyPlaceGiven s = some t) : ∃ w, s.copy.step = .waitPlace w ∧
    s.capture.hasFree = true ∧ t = ({ s with capture := s.capture.reserve } : State).askCopyWrite w .placed := by
  unfold rowCopyPlaceGiven at h
  split at h
  · split at h
    · rename_i hc
      cases h
      rw [Bool.and_eq_true] at hc
      exact ⟨_, ‹_›, hc.1, rfl⟩
    · cases h
  · cases h

theorem rowCopyWriteDone_cases (h : rowCopyWriteDone s = some t) : ∃ a w,
    (s.port.current = some (.copy (.write a w) false) ∧ t = s.endGrant.orphanCopyWritten a w) ∨
    (s.port.current = some (.copy (.write a w) true) ∧ ∃ v d q, s.copy.step = .destWrite v d ∧
      s.copy.request = some q ∧ t = s.endGrant.copyWritten q a w d) := by
  unfold rowCopyWriteDone at h
  split at h
  · rename_i a w owned hc
    refine ⟨a, w, ?_⟩
    cases owned with
    | false => cases h; exact .inl ⟨hc, rfl⟩
    | true =>
      simp only [Bool.not_true, Bool.false_eq_true, if_false] at h
      split at h <;> cases h
      exact .inr ⟨hc, _, _, _, ‹_›, ‹_›, rfl⟩
  · cases h

/-- R65: the three outcomes of the guard decision of a destination write. -/
theorem State.beginCopyWrite_cases (s : State) (w : Word) : s.beginCopyWrite w = s.askCopyWrite w .unplaced ∨
    (s.seq.panel = .lit ∧ s.capture.hasFree = true ∧
      s.beginCopyWrite w = ({ s with capture := s.capture.reserve } : State).askCopyWrite w .placed) ∨
    (s.seq.panel = .lit ∧ s.beginCopyWrite w = { s with copy := { s.copy with step := .waitPlace w } }) := by
  unfold State.beginCopyWrite
  split
  · exact .inl rfl
  · rename_i hn
    have hlit : s.seq.panel = .lit := State.needsPlace_lit (by simpa using hn)
    split
    · rename_i hf
      rw [Bool.and_eq_true] at hf
      exact .inr (.inl ⟨hlit, hf.1, rfl⟩)
    · exact .inr (.inr ⟨hlit, rfl⟩)

/-- The copy engine's position after a destination write that was made (R126). -/
def State.copyMoved (s : State) (q : CopyRequest) : State :=
  { s with copy := { s.copy with
      row := if s.copy.word + 1 = q.words then s.copy.row + 1 else s.copy.row
      word := if s.copy.word + 1 = q.words then 0 else s.copy.word + 1
      rowsRemaining := if s.copy.word + 1 = q.words then s.copy.rowsRemaining - 1 else s.copy.rowsRemaining } }

/-- R126, R132: a copy moves on to its next word, or ends. -/
theorem State.copyAdvance_cases (s : State) (q : CopyRequest) :
    (s.copy.cancelling = true ∧ s.copyAdvance q = (s.copyMoved q).endCopy .cancelled) ∨
    (s.copy.cancelling = false ∧
      ((s.copy.word + 1 = q.words ∧ s.copy.row + 1 = q.rows ∧ s.copyAdvance q = (s.copyMoved q).endCopy .done) ∨
        (¬(s.copy.word + 1 = q.words ∧ s.copy.row + 1 = q.rows) ∧ s.copyAdvance q = (s.copyMoved q).beginCopyWord))) := by
  have hmoved : s.copyAdvance q = if s.copy.cancelling then (s.copyMoved q).endCopy .cancelled
      else if s.copy.word + 1 = q.words ∧ s.copy.row + 1 = q.rows then (s.copyMoved q).endCopy .done
      else (s.copyMoved q).beginCopyWord := by
    simp [State.copyAdvance, State.copyMoved]
  rw [hmoved]
  split
  · exact .inl ⟨‹_›, rfl⟩
  · rename_i hc
    refine .inr ⟨by simpa using hc, ?_⟩
    split
    · rename_i hd; exact .inl ⟨hd.1, hd.2, rfl⟩
    · exact .inr ⟨‹_›, rfl⟩

/-! ### The resets (R122, R149) -/

/-- The part from POR_ASSERT on, until POR_END replaces what its blocks hold (R51, R95, R122, R155). -/
def State.porAsserted (s : State) : State :=
  { s.stopSustain with
    por := true
    dram := []
    dramEpoch := s.dramEpoch + 1
    passage := { s.passage with inHand := none, stallTimer := none, rdy := false }
    seq := { s.seq with hven := false }
    port := { s.port with current := none }
    report := { s.report with atn := false } }

theorem rowPorAssert_cases (h : rowPorAssert s = some t) : s.por = false ∧ t = s.porAsserted := by
  unfold rowPorAssert at h
  split at h <;> cases h
  rename_i hp
  exact ⟨by simpa using hp, rfl⟩

/-- The part at POR_END: the straps sampled, the levels outside the part as they stand, every block at its POR state
(R119, R122, R140, R149, R155). -/
def State.porEnded (s : State) (straps : BitVec 2) : State :=
  { State.reset with
    pending := s.pending
    dram := s.dram
    dramEpoch := s.dramEpoch
    straps := straps
    sysclr := s.sysclr
    passage := { Passage.por with
      presented := s.passage.presented, rdy := s.passage.presented.isNone, busData := s.passage.busData }
    seq := { Sequencer.por with hvok := s.seq.hvok, hvoc := s.seq.hvoc, gfx := s.seq.gfx, gfy := s.seq.gfy } }

theorem rowPorEnd_cases {straps : BitVec 2} (h : rowPorEnd straps s = some t) :
    s.por = true ∧ t = s.porEnded straps := by
  unfold rowPorEnd at h
  split at h <;> cases h
  exact ⟨‹_›, rfl⟩

theorem rowSysclr_cases (h : rowSysclr s = some t) : (s.por = true ∧ t = { s with sysclr := true }) ∨
    (s.por = false ∧ t = ({ s.abortCopy.enterDark with
      sysclr := true
      control := { s.control with checked := none }
      report := { s.abortCopy.enterDark.report with causes := 0, quietArmed := false } } : State).decideAtn) := by
  unfold rowSysclr at h
  split at h
  · cases h
  · split at h <;> cases h
    · exact .inl ⟨‹_›, rfl⟩
    · rename_i hn; exact .inr ⟨by simpa using hn, by simp⟩

theorem rowSysclrNegate_cases (h : rowSysclrNegate s = some t) : t = { s with sysclr := false } := by
  unfold rowSysclrNegate at h
  split at h <;> cases h
  rfl

theorem State.abortCopy_cases (s : State) : (s.copy.outcome ≠ .active ∧ s.abortCopy = s) ∨
    (s.copy.outcome = .active ∧ s.abortCopy = ({ s with port := s.port.dropCopy } : State).endCopy .aborted) := by
  unfold State.abortCopy
  split
  · exact .inr ⟨‹_›, rfl⟩
  · exact .inl ⟨‹_›, rfl⟩

end Sys2Proof.Machine
end

section
/-! PROOFS. The entries to the panel states: what emptying the work, a soft restart, an entry to CLEARING and a recovery
do to every block, and the closing of every event. -/

namespace Sys2Proof.Machine

variable {s t : State}

/-! ### The lines of the stale set, one by one -/

theorem mapFrom_getElem {α : Type} (f : Nat → α → α) (i k : Nat) (l : List α) (h : k < (mapFrom f i l).length) :
    (mapFrom f i l)[k] = f (i + k) (l[k]'(by rwa [mapFrom_length] at h)) := by
  induction l generalizing i k with
  | nil => simp [mapFrom] at h
  | cons a as ih =>
    cases k with
    | zero => rfl
    | succ k =>
      simp only [mapFrom, List.getElem_cons_succ]
      rw [ih (i + 1) k (by simpa [mapFrom] using h)]
      congr 1
      omega

@[simp] theorem mapPlaces_getElem {α : Type} {n : Nat} (f : Nat → α → α) (v : Vector α n) (k : Fin n) :
    (mapPlaces f v)[k] = f k.val v[k] := by
  obtain ⟨k, hk⟩ := k
  have := mapFrom_getElem f 0 k v.toList (by simpa [mapFrom_length] using hk)
  simpa [mapPlaces] using this

@[simp] theorem StaleSet.mark_lines (t : StaleSet) (p : Nat → Bool) (depth : Nat) (l : Fin 512) :
    (t.mark p depth).lines[l] = if p l.val = true then ⟨true, depth⟩ else t.lines[l] := mapPlaces_getElem _ _ l

@[simp] theorem StaleSet.mark_position (t : StaleSet) (p : Nat → Bool) (depth : Nat) :
    (t.mark p depth).posLine = t.posLine ∧ (t.mark p depth).posWord = t.posWord := ⟨rfl, rfl⟩

@[simp] theorem StaleSet.lowerHolds_lines (t : StaleSet) (l : Fin 512) :
    t.lowerHolds.lines[l] = ⟨t.lines[l].stale, t.lines[l].hold - 1⟩ := mapPlaces_getElem _ _ l

@[simp] theorem StaleSet.dropHolds_lines (t : StaleSet) (l : Fin 512) :
    t.dropHolds.lines[l] = ⟨t.lines[l].stale, 0⟩ := mapPlaces_getElem _ _ l

@[simp] theorem StaleSet.allSet_lines (l : Fin 512) : StaleSet.allSet.lines[l] = ⟨true, 0⟩ :=
  Vector.getElem_replicate l.isLt

/-- R71: the take of a line's first word clears its flag; no hold moves. -/
theorem StaleSet.takeWord_lines (t : StaleSet) (c : CellWord) (l : Fin 512) : (t.takeWord c).lines[l] =
    if c.index = 0 ∧ l.val = c.line then ⟨false, t.lines[l].hold⟩ else t.lines[l] := by
  by_cases hi : c.index = 0
  · simp only [StaleSet.takeWord, hi, if_true, true_and, mapPlaces_getElem]
  · simp only [StaleSet.takeWord, hi, if_false, false_and]

/-! ### Groups' timers -/

/-- The timer of a group, from the timers given place by place. -/
theorem entry_ofFn {n : Nat} {α : Type} (f : Fin n → α) {g : Nat} (hg : g < n) (d : α) :
    entry (Vector.ofFn f) g d = f ⟨g, hg⟩ := by
  simp [entry, hg]

theorem Sequencer.groupTimer_of_eq {q r : Sequencer} (hx : r.debounceX = q.debounceX) (hy : r.debounceY = q.debounceY)
    (axis : Axis) (g : Nat) : r.groupTimer axis g = q.groupTimer axis g := by
  cases axis <;> simp only [Sequencer.groupTimer, hx, hy]

/-! ### A report made due (R153) -/

theorem State.reportDue_made (s : State) : s.ReportMade s.reportDue where
  due := rfl
  asked h := by simp [State.reportDue, h]
  covered h := by
    cases hb : s.report.block <;> simp_all [State.reportDue]

/-- A report that is due stays so when it is made due again. -/
theorem State.ReportMade.again {u : State} (h : s.ReportMade t) (hu : t.ReportMade u) : s.ReportMade u where
  due := hu.due
  asked hb := by
    obtain ⟨h1, h2⟩ := h.asked hb
    obtain ⟨h3, h4⟩ := hu.covered (by rw [h1]; decide)
    exact ⟨h3.trans h1, h4.trans h2⟩
  covered hb := by
    obtain ⟨h1, h2⟩ := h.covered hb
    obtain ⟨h3, h4⟩ := hu.covered (by rwa [h1])
    exact ⟨h3.trans h1, h4.trans h2⟩

theorem State.enterCause_made (s : State) (c : Cause) : s.ReportMade (s.enterCause c) :=
  let h := State.reportDue_made
    (({ s with report := { s.report with causes := s.report.causes ||| c.bit } } : State).decideAtn)
  ⟨h.due, h.asked, h.covered⟩

theorem State.enterFault_made (s : State) (k : FaultKind) : s.ReportMade (s.enterFault k) :=
  let h := State.enterCause_made ({ s with seq := { s.seq with faults := s.seq.faults ||| k.bit } } : State) .fault
  ⟨h.due, h.asked, h.covered⟩

/-! ### Emptying the work (R37, R46, R57, R64, R69) -/

theorem MemoryPort.dropRender_granted (p : MemoryPort) {a : RenderAccess} {o : Bool}
    (h : p.current = some (.render a o)) : p.dropRender.current = some (.render a false) := by
  simp [MemoryPort.dropRender, h]

theorem MemoryPort.dropRender_other (p : MemoryPort) (h : ∀ a o, p.current ≠ some (.render a o)) :
    p.dropRender.current = p.current := by
  unfold MemoryPort.dropRender
  dsimp only
  split
  · exact absurd ‹_› (h _ _)
  · rfl

theorem MemoryPort.dropRender_copy (p : MemoryPort) {a : CopyAccess} {o : Bool}
    (h : p.current = some (.copy a o)) : p.dropRender.current = some (.copy a o) := by
  simp [MemoryPort.dropRender, h]

theorem Passage.emptied_other {p : Passage} (hh : ∀ a l w, p.inHand ≠ some (.write a l w .held))
    (hp : ∀ a l w, p.inHand ≠ some (.write a l w .placed)) : p.emptied = p ∧ p.holds = false := by
  unfold Passage.emptied Passage.holds
  constructor
  · split
    · exact absurd ‹_› (hh _ _ _)
    · exact absurd ‹_› (hp _ _ _)
    · rfl
  · split
    · exact absurd ‹_› (hh _ _ _)
    · rfl

theorem State.emptyWork_emptied (s : State) : s.WorkEmptied s.emptyWork where
  queue := rfl
  list := rfl
  holds l := by
    change s.stale.dropHolds.lines[l].hold = 0
    rw [StaleSet.dropHolds_lines]
  item := ⟨rfl, rfl⟩
  held a l w h := by simp [State.emptyWork, Passage.emptied, Passage.holds, h]
  placed a l w h := by simp [State.emptyWork, Passage.emptied, Passage.holds, h]
  other hh hp := by
    obtain ⟨he, hn⟩ := Passage.emptied_other hh hp
    exact ⟨he, by simp [State.emptyWork, hn]⟩
  withdrawn := rfl
  granted _ _ h := MemoryPort.dropRender_granted s.port h

theorem State.emptyWork_letsGo (s : State) : s.CopyLetGo s.emptyWork where
  waiting w h := by simp [State.emptyWork, CopyEngine.emptied, CopyEngine.emptiedRequest, h]
  placed w h := by simp [State.emptyWork, CopyEngine.emptied, CopyEngine.emptiedRequest, h]
  other hw hp := by
    have hc : s.copy.emptied = s.copy ∧ s.copy.emptiedRequest = none := by
      unfold CopyEngine.emptied CopyEngine.emptiedRequest
      constructor
      · split
        · exact absurd ‹_› (hw _)
        · exact absurd ‹_› (hp _)
        · rfl
      · split
        · exact absurd ‹_› (hw _)
        · rfl
    exact ⟨hc.1, by simp [State.emptyWork, hc.2]⟩

/-- A granted copy access goes on at an emptying. -/
theorem State.emptyWork_copyGrant (s : State) (a : CopyAccess) (o : Bool) (h : s.port.current = some (.copy a o)) :
    s.emptyWork.port.current = some (.copy a o) := MemoryPort.dropRender_copy s.port h

/-- A grant that is not the render stage's goes on at an emptying. -/
theorem State.emptyWork_grant (s : State) (h : ∀ a o, s.port.current ≠ some (.render a o)) :
    s.emptyWork.port.current = s.port.current := MemoryPort.dropRender_other s.port h

/-! ### Entries to CLEARING (R98, R101) -/

theorem State.softRestart_restarts (s : State) : s.SoftRestarts s.softRestart where
  entry :=
    let e := s.emptyWork_emptied
    let g := s.emptyWork_letsGo
    let r := State.reportDue_made
      ({ s.clearingEntry with address := { s.clearingEntry.address with
          currentA := s.standing.phaseA, currentB := s.standing.phaseB } } : State)
    { panel := rfl
      flags := ⟨rfl, rfl⟩
      timers := ⟨rfl, rfl, rfl⟩
      emptied := ⟨e.queue, e.list, fun l => congrArg StaleLine.hold (StaleSet.allSet_lines l), e.item, e.held,
        e.placed, e.other, e.withdrawn, e.granted⟩
      copy := ⟨g.waiting, g.placed, g.other⟩
      copyGrant := s.emptyWork_copyGrant
      stale := rfl
      wipe := rfl
      erases := rfl
      sequencer := ⟨rfl, rfl, rfl, rfl, rfl, rfl, rfl, rfl⟩
      due := ⟨r.due, r.asked, r.covered⟩
      report := ⟨rfl, rfl, rfl⟩
      control := rfl
      sysclr := rfl
      keeps := ⟨⟨rfl, rfl⟩, ⟨rfl, rfl, rfl⟩, rfl, ⟨rfl, rfl, rfl, rfl⟩, ⟨rfl, rfl, rfl, rfl⟩, ⟨rfl, rfl⟩,
        fun h _ => s.emptyWork_grant h, rfl⟩ }
  sustain := rfl
  debounce := ⟨rfl, fun axis g => Sequencer.groupTimer_of_eq rfl rfl axis g⟩
  glass := rfl

theorem State.enterClearing_enters (s : State) : s.EntersClearing s.enterClearing :=
  let e := s.emptyWork_emptied
  let g := s.emptyWork_letsGo
  let r := s.reportDue_made
  { panel := rfl
    flags := ⟨rfl, rfl⟩
    timers := ⟨rfl, rfl, rfl⟩
    emptied := ⟨e.queue, e.list, fun l => congrArg StaleLine.hold (StaleSet.allSet_lines l), e.item, e.held,
      e.placed, e.other, e.withdrawn, e.granted⟩
    copy := ⟨g.waiting, g.placed, g.other⟩
    copyGrant := s.emptyWork_copyGrant
    stale := rfl
    wipe := rfl
    erases := rfl
    sequencer := ⟨rfl, rfl, rfl, rfl, rfl, rfl, rfl, rfl⟩
    due := ⟨r.due, r.asked, r.covered⟩
    report := ⟨rfl, rfl, rfl⟩
    control := rfl
    sysclr := rfl
    keeps := ⟨⟨rfl, rfl⟩, ⟨rfl, rfl, rfl⟩, rfl, ⟨rfl, rfl, rfl, rfl⟩, ⟨rfl, rfl, rfl, rfl⟩, ⟨rfl, rfl⟩,
      fun h _ => s.emptyWork_grant h, rfl⟩ }

/-! ### Switching off (R102, R105) -/

theorem State.enterDark_emptied (s : State) : s.WorkEmptied s.enterDark :=
  let e := s.emptyWork_emptied
  ⟨e.queue, e.list, fun l => congrArg StaleLine.hold (StaleSet.clear_lines l), e.item, e.held, e.placed, e.other,
    e.withdrawn, e.granted⟩

theorem State.enterDark_letsGo (s : State) : s.CopyLetGo s.enterDark :=
  let g := s.emptyWork_letsGo
  ⟨g.waiting, g.placed, g.other⟩

theorem State.barNoGroups_emptied (s : State) : s.WorkEmptied s.barNoGroups :=
  let e := s.emptyWork_emptied
  ⟨e.queue, e.list, e.holds, e.item, e.held, e.placed, e.other, e.withdrawn, e.granted⟩

theorem State.barNoGroups_letsGo (s : State) : s.CopyLetGo s.barNoGroups :=
  let g := s.emptyWork_letsGo
  ⟨g.waiting, g.placed, g.other⟩

/-- R102: a recovery is BARRED at a count of 5, with RECOVERY LIMIT in the fault set, and rests below it. -/
theorem State.recover_cases (s : State) :
    (4 ≤ s.seq.recoveryCount ∧ s.recover = (({ s.powerDown with seq := { s.powerDown.seq with
      panel := .barred, recoveryCount := s.seq.recoveryCount + 1 } } : State).enterFault .recoveryLimit).reportDue) ∨
    (s.seq.recoveryCount < 4 ∧ s.recover = ({ s.powerDown with seq := { s.powerDown.seq with
      panel := .resting, recoveryCount := s.seq.recoveryCount + 1
      restTimer := some Config.restMicros } } : State).reportDue) := by
  unfold State.recover
  dsimp only
  split
  · rename_i h; exact .inl ⟨by simp only [Config.recoveryLimit] at h; omega, rfl⟩
  · rename_i h; exact .inr ⟨by simp only [Config.recoveryLimit] at h; omega, rfl⟩

theorem State.recover_emptied (s : State) : s.WorkEmptied s.recover := by
  let e := s.emptyWork_emptied
  obtain ⟨-, h⟩ | ⟨-, h⟩ := s.recover_cases <;> rw [h] <;>
    exact ⟨e.queue, e.list, e.holds, e.item, e.held, e.placed, e.other, e.withdrawn, e.granted⟩

theorem State.recover_letsGo (s : State) : s.CopyLetGo s.recover := by
  let g := s.emptyWork_letsGo
  obtain ⟨-, h⟩ | ⟨-, h⟩ := s.recover_cases <;> rw [h] <;> exact ⟨g.waiting, g.placed, g.other⟩

/-- At a recovery the port's grant is what an emptying leaves of it. -/
theorem State.recover_current (s : State) : s.recover.port.current = s.port.dropRender.current := by
  obtain ⟨-, h⟩ | ⟨-, h⟩ := s.recover_cases <;> rw [h] <;> rfl

theorem State.recover_panel (s : State) : s.recover.seq.panel = .barred ∨ s.recover.seq.panel = .resting := by
  obtain ⟨-, h⟩ | ⟨-, h⟩ := s.recover_cases <;> rw [h]
  exacts [.inl rfl, .inr rfl]

end Sys2Proof.Machine
end

section
/-! PROOFS. The rows that leave the picture path alone: the bus, the copy engine, the report unit and the pulses move
neither the queue nor the item in hand nor the panel state. -/

namespace Sys2Proof.Machine

variable {s t u : State}

/-! ### Completed writes leave the position of the stale set -/

theorem State.overflow_position (s : State) (a : Addr) (l : Lanes) :
    (s.overflow a l).stale.posLine = s.stale.posLine ∧ (s.overflow a l).stale.posWord = s.stale.posWord := by
  cases h : s.standing.overflowLines a l with
  | none => rw [State.overflow_of_none h]; exact ⟨by simp, by simp⟩
  | some ls => rw [State.overflow_of_some h]; exact ⟨by simp, by simp⟩

theorem State.pictureWritten_position (s : State) (a : Addr) (l : Lanes) (w : Word) (d : GuardDecision) :
    (s.pictureWritten a l w d).stale.posLine = s.stale.posLine ∧
      (s.pictureWritten a l w d).stale.posWord = s.stale.posWord := by
  by_cases hl : s.seq.panel = .lit
  · cases d with
    | placed => rw [State.pictureWritten_placed hl]; exact ⟨rfl, rfl⟩
    | unplaced =>
      by_cases hf : s.capture.hasFree = true
      · rw [State.pictureWritten_unplaced_free hl hf]; exact ⟨rfl, rfl⟩
      · rw [State.pictureWritten_overflow hl (.inl ⟨rfl, hf⟩)]; exact s.overflow_position a l
    | held | expired =>
      rw [State.pictureWritten, if_pos hl]; exact s.overflow_position a l
  · rw [State.pictureWritten_of_not_lit hl]; exact ⟨rfl, rfl⟩

theorem State.landed_position (s : State) (a : Addr) (l : Lanes) (w : Word) (d : GuardDecision) :
    (s.landed a l w d).stale.posLine = s.stale.posLine ∧ (s.landed a l w d).stale.posWord = s.stale.posWord := by
  unfold State.landed
  dsimp only
  split
  · exact ⟨rfl, rfl⟩
  · exact State.pictureWritten_position _ a l w d
  all_goals exact ⟨rfl, rfl⟩

theorem State.busWritten_position (s : State) (a : Addr) (l : Lanes) (w : Word) (d : GuardDecision) :
    (s.busWritten a l w d).stale.posLine = s.stale.posLine ∧
      (s.busWritten a l w d).stale.posWord = s.stale.posWord := by
  unfold State.busWritten
  split
  · exact ⟨rfl, rfl⟩
  · exact s.landed_position a l w d

theorem State.orphanCopyWritten_position (s : State) (a : Addr) (w : Word) :
    (s.orphanCopyWritten a w).stale.posLine = s.stale.posLine ∧
      (s.orphanCopyWritten a w).stale.posWord = s.stale.posWord := by
  unfold State.orphanCopyWritten
  split
  · exact ⟨rfl, rfl⟩
  · exact s.landed_position a .both w .unplaced

theorem State.copyWritten_position (s : State) (q : CopyRequest) (a : Addr) (w : Word) (d : GuardDecision) :
    (s.copyWritten q a w d).stale.posLine = s.stale.posLine ∧
      (s.copyWritten q a w d).stale.posWord = s.stale.posWord := by
  unfold State.copyWritten
  split
  · simp
  · simpa using s.landed_position a .both w d

@[simp] theorem State.endGrant_current (s : State) : s.endGrant.port.current = none := rfl

/-! ### The picture path stands -/

/-- Between `s` and `t` nothing moved of what leads from the picture to the panel: the parameter sets, the item in hand
and its access, the queue, the resweep position, the erases, the glass and the sequencer. -/
structure State.KeepsPicture (s t : State) : Prop where
  por : t.por = s.por
  straps : t.straps = s.straps
  standing : t.standing = s.standing
  checked : t.control.checked = s.control.checked
  render : t.render = s.render
  queue : t.queue = s.queue
  position : t.stale.posLine = s.stale.posLine ∧ t.stale.posWord = s.stale.posWord
  seq : t.seq = s.seq
  glass : t.glass = s.glass
  erases : t.address.globalErases = s.address.globalErases
  waiting : t.port.renderWaiting = s.port.renderWaiting
  current : ∀ a o, t.port.current = some (.render a o) ↔ s.port.current = some (.render a o)

theorem State.KeepsPicture.refl (s : State) : s.KeepsPicture s :=
  ⟨rfl, rfl, rfl, rfl, rfl, rfl, ⟨rfl, rfl⟩, rfl, rfl, rfl, rfl, fun _ _ => Iff.rfl⟩

theorem State.KeepsPicture.trans (h : s.KeepsPicture t) (k : t.KeepsPicture u) : s.KeepsPicture u where
  por := k.por.trans h.por
  straps := k.straps.trans h.straps
  standing := k.standing.trans h.standing
  checked := k.checked.trans h.checked
  render := k.render.trans h.render
  queue := k.queue.trans h.queue
  position := ⟨k.position.1.trans h.position.1, k.position.2.trans h.position.2⟩
  seq := k.seq.trans h.seq
  glass := k.glass.trans h.glass
  erases := k.erases.trans h.erases
  waiting := k.waiting.trans h.waiting
  current a o := (k.current a o).trans (h.current a o)

/-- The end of a grant that is not the render stage's. -/
theorem State.endGrant_keepsPicture (h : ∀ a o, s.port.current ≠ some (.render a o)) : s.KeepsPicture s.endGrant :=
  ⟨rfl, rfl, rfl, rfl, rfl, rfl, ⟨rfl, rfl⟩, rfl, rfl, rfl, rfl, fun a o => by simp [h a o]⟩

theorem State.askPassthrough_keepsPicture (s : State) : s.KeepsPicture s.askPassthrough := by constructor <;> simp

theorem State.holdWrite_keepsPicture (s : State) (a : Addr) (l : Option Lanes) (w : Word) (d : GuardDecision)
    (m : Timer) : s.KeepsPicture (s.holdWrite a l w d m) := by constructor <;> simp

theorem State.takeRead_keepsPicture (s : State) (a : Addr) : s.KeepsPicture (s.takeRead a) := by
  constructor <;> simp

theorem State.takeWrite_keepsPicture (s : State) (a : Addr) (v b : Bool) (w : Word) :
    s.KeepsPicture (s.takeWrite a v b w) := by constructor <;> simp

theorem State.present_keepsPicture (s : State) (c : PresentedCycle) : s.KeepsPicture (s.present c) := by
  constructor <;> simp

/-- A change of the capture list alone. -/
theorem State.capture_keepsPicture (s : State) (c : CaptureList) : s.KeepsPicture { s with capture := c } :=
  ⟨rfl, rfl, rfl, rfl, rfl, rfl, ⟨rfl, rfl⟩, rfl, rfl, rfl, rfl, fun _ _ => Iff.rfl⟩

theorem State.takeHandOver_keepsPicture (s : State) (o : HandOver) (rest : List HandOver) :
    s.KeepsPicture (s.takeHandOver o rest) := by constructor <;> simp

theorem State.recordCommand_keepsPicture (s : State) (code : Byte) (o : CommandOutcome) :
    s.KeepsPicture (s.recordCommand code o) := by constructor <;> simp

theorem ControlBlock.latch_checked (c : ControlBlock) (h : HandOver) : (c.latch h).checked = c.checked := by
  unfold ControlBlock.latch
  (repeat' split) <;> rfl

/-- A command that leaves the picture path alone, with its take and its record. -/
theorem commandRow_keepsPicture {isMine : Byte → Bool} {act : State → State × CommandOutcome}
    (hact : ∀ u : State, u.KeepsPicture (act u).1) (h : commandRow isMine act s = some t) : s.KeepsPicture t :=
  commandRow_keeps (P := fun u => s.KeepsPicture u) (fun k o rest => k.trans (State.takeHandOver_keepsPicture _ o rest))
    (fun k code o => k.trans (State.recordCommand_keepsPicture _ code o)) (fun k => k.trans (hact _)) h
    (State.KeepsPicture.refl s)

theorem State.doRelease_keepsPicture (s : State) : s.KeepsPicture s.doRelease.1 := by
  constructor <;> simp [State.doRelease]

theorem State.doStartCopy_keepsPicture (s : State) : s.KeepsPicture s.doStartCopy.1 := by
  obtain h | ⟨-, h⟩ := s.doStartCopy_cases <;> rw [h]
  · exact .refl s
  · constructor <;> simp

theorem State.doCancelCopy_keepsPicture (s : State) : s.KeepsPicture s.doCancelCopy.1 := by
  obtain h | ⟨-, -, ⟨-, h⟩ | ⟨-, h⟩⟩ := s.doCancelCopy_cases <;> rw [h]
  · exact .refl s
  · constructor <;> simp
  · constructor <;> simp

theorem State.doResweepAll_keepsPicture (s : State) : s.KeepsPicture s.doResweepAll.1 := by
  obtain h | h := s.doResweepAll_cases <;> rw [h]
  · exact .refl s
  · constructor <;> simp

theorem State.writeBlock_keepsPicture (s : State) (a : Nat) (ws : List Word) : s.KeepsPicture (s.writeBlock a ws) := by
  constructor <;> simp

theorem State.blockIdle_keepsPicture (s : State) : s.KeepsPicture s.blockIdle := by constructor <;> simp

theorem State.busWritten_keepsPicture (s : State) (a : Addr) (l : Lanes) (w : Word) (d : GuardDecision) :
    s.KeepsPicture (s.busWritten a l w d) := by constructor <;> simp [State.busWritten_position]

theorem State.orphanCopyWritten_keepsPicture (s : State) (a : Addr) (w : Word) :
    s.KeepsPicture (s.orphanCopyWritten a w) := by constructor <;> simp [State.orphanCopyWritten_position]

/-- The control block of a completed copy write keeps a checked set. -/
theorem State.copyWritten_keepsPicture (s : State) (q : CopyRequest) (a : Addr) (w : Word) (d : GuardDecision) :
    s.KeepsPicture (s.copyWritten q a w d) := by constructor <;> simp [State.copyWritten_position]

theorem State.endCopy_keepsPicture (s : State) (o : CopyOutcome) : s.KeepsPicture (s.endCopy o) := by
  constructor <;> simp

theorem State.beginCopyWrite_keepsPicture (s : State) (w : Word) : s.KeepsPicture (s.beginCopyWrite w) := by
  constructor <;> simp

theorem State.askCopyWrite_keepsPicture (s : State) (w : Word) (d : GuardDecision) :
    s.KeepsPicture (s.askCopyWrite w d) := by constructor <;> simp

/-- The rows that the picture path is made of: commits, the render stage, the slot, the sequencer and the decision of
the port. -/
inductive PictureRow : (State → Option State) → Prop
  | commit : PictureRow rowCommit
  | restartPanel : PictureRow rowRestartPanel
  | stopPanel : PictureRow rowStopPanel
  | clearFaults : PictureRow rowClearFaults
  | commitApply : PictureRow rowCommitApply
  | captureItem : PictureRow rowCaptureItem
  | resweepItem : PictureRow rowResweepItem
  | wipeItem : PictureRow rowWipeItem
  | freeEntryWaitEnd : PictureRow rowFreeEntryWaitEnd
  | pictureReadDone : PictureRow rowPictureReadDone
  | cellWordReadDone : PictureRow rowCellWordReadDone
  | writeBackDone : PictureRow rowWriteBackDone
  | wipeWriteDone : PictureRow rowWipeWriteDone
  | sustainCycleStart : PictureRow rowSustainCycleStart
  | hvokSeen : PictureRow rowHvokSeen
  | hvokLost : PictureRow rowHvokLost
  | hvocSeen : PictureRow rowHvocSeen
  | groupStrike (axis : Axis) (g : Nat) : PictureRow (rowGroupStrike axis g)
  | chargeTimeout : PictureRow rowChargeTimeout
  | restEnd : PictureRow rowRestEnd
  | litDurationExpiry : PictureRow rowLitDurationExpiry
  | grantDecision : PictureRow rowGrantDecision

/-- Every other row of the blocks leaves the picture path alone. -/
theorem InnerRow.picture {row : State → Option State} (hr : InnerRow row) (h : row s = some t) :
    PictureRow row ∨ s.KeepsPicture t := by
  cases hr
  case stallExpiry =>
    obtain ⟨a, l, w, -, rfl⟩ := rowStallExpiry_cases h
    exact .inr ((s.holdWrite_keepsPicture a l w _ _).trans (State.askPassthrough_keepsPicture _))
  case heldWritePlaced =>
    obtain ⟨a, l, w, -, -, rfl⟩ := rowHeldWritePlaced_cases h
    exact .inr (((s.capture_keepsPicture _).trans (State.holdWrite_keepsPicture _ a l w _ _)).trans
      (State.askPassthrough_keepsPicture _))
  case passthroughReadDone =>
    obtain ⟨a, hc, -, rfl⟩ := rowPassthroughReadDone_cases h
    refine .inr ((State.endGrant_keepsPicture (by simp [hc])).trans ?_)
    constructor <;> simp
  case passthroughWriteDone =>
    obtain ⟨a, lanes, w, d, hc, -, ⟨-, rfl⟩ | ⟨l, -, rfl⟩⟩ := rowPassthroughWriteDone_cases h <;>
      refine .inr ((State.endGrant_keepsPicture (by simp [hc])).trans ?_)
    · constructor <;> simp
    · exact State.KeepsPicture.trans (t := s.endGrant.endCycle) (by constructor <;> simp)
        (State.busWritten_keepsPicture _ a l w d)
  case stagedWrite =>
    obtain ⟨o, rest, rfl⟩ := rowStagedWrite_cases h
    refine .inr ((s.takeHandOver_keepsPicture o rest).trans ?_)
    constructor <;> simp [ControlBlock.latch_checked]
  case release => exact .inr (commandRow_keepsPicture State.doRelease_keepsPicture h)
  case startCopy => exact .inr (commandRow_keepsPicture State.doStartCopy_keepsPicture h)
  case cancelCopy => exact .inr (commandRow_keepsPicture State.doCancelCopy_keepsPicture h)
  case resweepAll => exact .inr (commandRow_keepsPicture State.doResweepAll_keepsPicture h)
  case reportNow => exact .inr (commandRow_keepsPicture State.KeepsPicture.refl h)
  case unknownCommand => exact .inr (commandRow_keepsPicture State.KeepsPicture.refl h)
  case phaseBStart => rw [rowPhaseBStart_cases h]; exact .inr (by constructor <;> simp)
  case addressPulseStart =>
    obtain ⟨p, rfl⟩ := rowAddressPulseStart_cases h
    exact .inr (by constructor <;> simp)
  case addressPulseEnd => rw [rowAddressPulseEnd_cases h]; exact .inr (by constructor <;> simp)
  case rampTick => rw [rowRampTick_cases h]; exact .inr (by constructor <;> simp)
  case refreshDue => rw [rowRefreshDue_cases h]; exact .inr (by constructor <;> simp)
  case refreshDone =>
    obtain ⟨hc, rfl⟩ := rowRefreshDone_cases h
    refine .inr ((State.endGrant_keepsPicture (by simp [hc])).trans ?_)
    constructor <;> simp
  case reportBlockGrant =>
    obtain ⟨hc, rfl⟩ := rowReportBlockGrant_cases h
    exact .inr (by constructor <;> simp [hc])
  case reportBlockDone =>
    obtain ⟨words, hc, rfl⟩ := rowReportBlockDone_cases h
    exact .inr (((State.endGrant_keepsPicture (by simp [hc])).trans (State.writeBlock_keepsPicture _ _ _)).trans
      (State.blockIdle_keepsPicture _))
  case imageGrantDone =>
    obtain ⟨n, u, hc, hu, h⟩ := rowImageGrantDone_cases h
    have hk : s.KeepsPicture u :=
      hu ▸ (State.endGrant_keepsPicture (by simp [hc])).trans (State.writeBlock_keepsPicture _ _ _)
    obtain ⟨-, rfl⟩ | rfl := h
    · exact .inr (hk.trans (by constructor <;> simp))
    · exact .inr (hk.trans (State.blockIdle_keepsPicture u))
  case copyReadDone =>
    obtain ⟨a, ⟨hc, rfl⟩ | ⟨hc, -, ⟨-, rfl⟩ | ⟨-, rfl⟩⟩⟩ := rowCopyReadDone_cases h
    · exact .inr (State.endGrant_keepsPicture (by simp [hc]))
    · exact .inr ((State.endGrant_keepsPicture (by simp [hc])).trans (State.endCopy_keepsPicture _ _))
    · exact .inr ((State.endGrant_keepsPicture (by simp [hc])).trans (State.beginCopyWrite_keepsPicture _ _))
  case copyPlaceGiven =>
    obtain ⟨w, -, -, rfl⟩ := rowCopyPlaceGiven_cases h
    exact .inr ((s.capture_keepsPicture _).trans (State.askCopyWrite_keepsPicture _ _ _))
  case copyWriteDone =>
    obtain ⟨a, w, ⟨hc, rfl⟩ | ⟨hc, v, d, q, -, -, rfl⟩⟩ := rowCopyWriteDone_cases h
    · exact .inr ((State.endGrant_keepsPicture (by simp [hc])).trans (State.orphanCopyWritten_keepsPicture _ a w))
    · exact .inr ((State.endGrant_keepsPicture (by simp [hc])).trans (State.copyWritten_keepsPicture _ q a w d))
  case presented =>
    obtain ⟨-, ⟨a, rfl⟩ | ⟨a, v, b, w, rfl⟩⟩ := takePresented_cases h
    · exact .inr (s.takeRead_keepsPicture a)
    · exact .inr (s.takeWrite_keepsPicture a v b w)
  all_goals exact .inl (by constructor)

/-- The rows of the pins that leave the picture path alone. -/
theorem rowBusRead_keepsPicture {a : Addr} (h : rowBusRead a s = some t) : s.KeepsPicture t := by
  obtain ⟨-, rfl | ⟨-, rfl⟩⟩ := rowBusRead_cases h
  exacts [s.present_keepsPicture _, s.takeRead_keepsPicture a]

theorem rowBusWrite_keepsPicture {a : Addr} {v b : Bool} {w : Word} (h : rowBusWrite a v b w s = some t) :
    s.KeepsPicture t := by
  obtain ⟨-, rfl | ⟨-, rfl⟩⟩ := rowBusWrite_cases h
  exacts [s.present_keepsPicture _, s.takeWrite_keepsPicture a v b w]

theorem rowSysclrNegate_keepsPicture (h : rowSysclrNegate s = some t) : s.KeepsPicture t := by
  rw [rowSysclrNegate_cases h]
  exact ⟨rfl, rfl, rfl, rfl, rfl, rfl, ⟨rfl, rfl⟩, rfl, rfl, rfl, rfl, fun _ _ => Iff.rfl⟩

end Sys2Proof.Machine
end

section
/-! PROOFS. The change queue (spec/03 3.2, 3.3): a change arrival, the comparison of a cell word with its targets, and
what the queue and the item in hand keep. -/

namespace Sys2Proof.Machine

variable {s t : State}

/-! ### A change arrival (R35) -/

/-- The cell an order names. -/
def CellOrder.cell (o : CellOrder) : Nat × Nat := (o.column, o.line)

/-- R34: no two orders of the queue name one cell. -/
def DistinctCells (q : List CellOrder) : Prop := (q.map CellOrder.cell).Nodup

theorem CellOrder.isAt_iff {o : CellOrder} {column line : Nat} :
    o.isAt column line = true ↔ o.column = column ∧ o.line = line := by
  simp [CellOrder.isAt]

theorem CellOrder.isAt_iff_cell {o : CellOrder} {column line : Nat} :
    o.isAt column line = true ↔ o.cell = (column, line) := by
  simp [CellOrder.isAt_iff, CellOrder.cell]

theorem any_isAt_iff {q : List CellOrder} {column line : Nat} :
    q.any (fun o => o.isAt column line) = true ↔ (column, line) ∈ q.map CellOrder.cell := by
  simp only [List.any_eq_true, CellOrder.isAt_iff_cell, List.mem_map]

theorem changeArrival_of_waiting {q : List CellOrder} {column line : Nat} (bit : Bool)
    (h : (column, line) ∈ q.map CellOrder.cell) :
    changeArrival q column line bit = q.eraseP fun o => o.isAt column line :=
  if_pos (any_isAt_iff.2 h)

theorem changeArrival_of_not_waiting {q : List CellOrder} {column line : Nat} (bit : Bool)
    (h : (column, line) ∉ q.map CellOrder.cell) :
    changeArrival q column line bit = q ++ [⟨column, line, kindOf bit⟩] :=
  if_neg fun hw => h (any_isAt_iff.1 hw)

/-- Of a queue without two orders for one cell, the removal of the first order for a cell removes every such order. -/
theorem DistinctCells.eraseP_isAt {q : List CellOrder} (hq : DistinctCells q) (column line : Nat) :
    q.eraseP (fun o => o.isAt column line) = q.filter fun o => !o.isAt column line := by
  induction q with
  | nil => rfl
  | cons o q ih =>
    obtain ⟨hfresh, hq⟩ := List.nodup_cons.1 hq
    by_cases ho : o.isAt column line = true
    · have hrest : ∀ x ∈ q, (!x.isAt column line) = true := by
        intro x hx
        rw [Bool.not_eq_true', ← Bool.not_eq_true]
        intro hxc
        rw [CellOrder.isAt_iff_cell] at ho hxc
        exact hfresh (List.mem_map.2 ⟨x, hx, hxc.trans ho.symm⟩)
      rw [List.eraseP_cons_of_pos (p := fun x : CellOrder => x.isAt column line) ho, List.filter_cons_of_neg (by simp [ho]), List.filter_eq_self.2 hrest]
    · rw [List.eraseP_cons_of_neg (p := fun x : CellOrder => x.isAt column line) ho, List.filter_cons_of_pos (by simpa using ho), ih hq]

/-- Settles O31: a waiting order is found and removed, otherwise the tail grows. -/
theorem aChangeArrivalCoalescesOrJoins : Obligations.AChangeArrivalCoalescesOrJoins := by
  intro q column line bit hq
  refine ⟨fun ⟨o, ho, hc⟩ => ?_, fun hn => ?_⟩
  · rw [changeArrival_of_waiting bit (List.mem_map.2 ⟨o, ho, Prod.ext hc.1 hc.2⟩), DistinctCells.eraseP_isAt hq]
    rfl
  · refine changeArrival_of_not_waiting bit fun hm => ?_
    obtain ⟨o, ho, hc⟩ := List.mem_map.1 hm
    exact hn o ho ⟨congrArg Prod.fst hc, congrArg Prod.snd hc⟩

theorem length_changeArrival_le (q : List CellOrder) (column line : Nat) (bit : Bool) :
    (changeArrival q column line bit).length ≤ q.length + 1 := by
  unfold changeArrival
  split
  · exact (List.length_eraseP_le).trans (Nat.le_succ _)
  · simp

theorem mem_changeArrival {q : List CellOrder} {column line : Nat} {bit : Bool} {o : CellOrder}
    (h : o ∈ changeArrival q column line bit) : o ∈ q ∨ o = ⟨column, line, kindOf bit⟩ := by
  unfold changeArrival at h
  split at h
  · exact .inl (List.mem_of_mem_eraseP h)
  · simpa using h

theorem DistinctCells.changeArrival {q : List CellOrder} (hq : DistinctCells q) (column line : Nat) (bit : Bool) :
    DistinctCells (changeArrival q column line bit) := by
  by_cases h : (column, line) ∈ q.map CellOrder.cell
  · rw [changeArrival_of_waiting bit h]
    exact hq.sublist (List.eraseP_sublist.map _)
  · rw [changeArrival_of_not_waiting bit h, DistinctCells, List.map_append]
    refine List.nodup_append.2 ⟨hq, List.nodup_singleton _, fun x hx y hy e => h ?_⟩
    have hy : y = (column, line) := List.mem_singleton.1 hy
    rwa [← hy, ← e]

/-! ### The bits of a cell word (R3, R5) -/

theorem withCellBit_eq (w : Word) (cx : Nat) (bit : Bool) : withCellBit w cx bit =
    if bit then w ||| BitVec.twoPow 16 (cellBit cx) else w &&& ~~~(BitVec.twoPow 16 (cellBit cx)) := by
  rw [BitVec.twoPow]; rfl

theorem cellBitOf_withCellBit (w : Word) (cx cy : Nat) (bit : Bool) :
    cellBitOf (withCellBit w cx bit) cy = if cy % 16 = cx % 16 then bit else cellBitOf w cy := by
  have hlt : cellBit cy < 16 := by unfold cellBit; omega
  have hplace : cellBit cy = cellBit cx ↔ cy % 16 = cx % 16 := by unfold cellBit; omega
  rw [withCellBit_eq]
  unfold cellBitOf
  cases bit <;> by_cases h : cy % 16 = cx % 16 <;> simp [BitVec.getElem_twoPow, hlt, hplace, h]

/-- R43 step 3, bit by bit: an evaluated cell's bit is its target, the others stand. -/
theorem cellBitOf_compareTargets {line : Nat} {targets : List (Nat × Bool)} {q : List CellOrder} {w : Word}
    (hd : (targets.map fun x => x.1 % 16).Nodup) :
    (∀ x ∈ targets, cellBitOf (compareTargets line targets q w).2 x.1 = x.2) ∧
      ∀ cx, (∀ x ∈ targets, x.1 % 16 ≠ cx % 16) →
        cellBitOf (compareTargets line targets q w).2 cx = cellBitOf w cx := by
  induction targets generalizing q w with
  | nil => exact ⟨fun x hx => absurd hx List.not_mem_nil, fun _ _ => rfl⟩
  | cons x rest ih =>
    obtain ⟨cx, b⟩ := x
    obtain ⟨hfresh, hd⟩ := List.nodup_cons.1 hd
    have hother : ∀ y ∈ rest, y.1 % 16 ≠ cx % 16 := fun y hy e => hfresh (List.mem_map.2 ⟨y, hy, e⟩)
    rw [compareTargets]
    split
    · rename_i heq
      refine ⟨fun y hy => ?_, fun cy hy => (ih hd).2 cy fun z hz => hy z (List.mem_cons_of_mem _ hz)⟩
      rcases List.mem_cons.1 hy with rfl | hy
      · exact ((ih hd).2 cx hother).trans heq
      · exact (ih hd).1 y hy
    · refine ⟨fun y hy => ?_, fun cy hy => ?_⟩
      · rcases List.mem_cons.1 hy with rfl | hy
        · rw [(ih hd).2 cx hother, cellBitOf_withCellBit, if_pos rfl]
        · exact (ih hd).1 y hy
      · rw [(ih hd).2 cy fun z hz => hy z (List.mem_cons_of_mem _ hz), cellBitOf_withCellBit,
          if_neg fun e => hy (cx, b) List.mem_cons_self e.symm]

/-- R43 step 3, the queue: one change arrival for each cell whose bit in the word read is not its target. -/
theorem compareTargets_queue {line : Nat} {targets : List (Nat × Bool)} {q : List CellOrder} {w : Word}
    (hd : (targets.map fun x => x.1 % 16).Nodup) : (compareTargets line targets q w).1 =
      (targets.filter fun x => cellBitOf w x.1 != x.2).foldl (fun q x => changeArrival q x.1 line x.2) q := by
  induction targets generalizing q w with
  | nil => rfl
  | cons x rest ih =>
    obtain ⟨cx, b⟩ := x
    obtain ⟨hfresh, hd⟩ := List.nodup_cons.1 hd
    rw [compareTargets]
    split
    · rename_i heq
      rw [ih hd, List.filter_cons_of_neg (by simp [heq])]
    · rename_i hne
      rw [ih hd, List.filter_cons_of_pos (by simpa using hne), List.foldl_cons]
      refine congrArg _ (List.filter_congr fun y hy => ?_)
      rw [cellBitOf_withCellBit, if_neg fun e => hfresh (List.mem_map.2 ⟨y, hy, e⟩)]

/-- Settles O30, by induction on the targets: no later target touches the place of an earlier one. -/
theorem theComparisonSetsEvaluatedBits : Obligations.TheComparisonSetsEvaluatedBits := fun _ _ _ _ hd =>
  ⟨(cellBitOf_compareTargets hd).1, (cellBitOf_compareTargets hd).2, compareTargets_queue hd⟩

/-! ### The queue after a comparison -/

/-- What every change arrival of the evaluated cells keeps of the queue, a comparison keeps. -/
theorem compareTargets_keeps {P : List CellOrder → Prop} {line : Nat} {targets : List (Nat × Bool)}
    (hP : ∀ x ∈ targets, ∀ q, P q → P (changeArrival q x.1 line x.2)) {q : List CellOrder} {w : Word} (hq : P q) :
    P (compareTargets line targets q w).1 := by
  induction targets generalizing q w with
  | nil => exact hq
  | cons x rest ih =>
    have hrest : ∀ y ∈ rest, _ := fun y hy => hP y (List.mem_cons_of_mem _ hy)
    rw [compareTargets]
    split
    · exact ih hrest hq
    · exact ih hrest (hP x List.mem_cons_self q hq)

theorem length_compareTargets_le (line : Nat) (targets : List (Nat × Bool)) (q : List CellOrder) (w : Word) :
    (compareTargets line targets q w).1.length ≤ q.length + targets.length := by
  induction targets generalizing q w with
  | nil => rfl
  | cons x rest ih =>
    have := length_changeArrival_le q x.1 line x.2
    rw [compareTargets, List.length_cons]
    split
    · have := ih q w; omega
    · have := ih (changeArrival q x.1 line x.2) (withCellBit w x.1 x.2); omega

/-- R43: the evaluated cells of an item are columns of its cell word, in order and each once. -/
theorem RenderItem.targets_columns {p : ParamSet} {i : RenderItem} {c : CellWord} (h : i.cell? = some c) :
    ((i.targets p).map (·.1)).Sublist c.columns := by
  cases i with
  | capture r d rest stage =>
    cases h
    cases hr : p.rectangle r with
    | none => rw [RenderItem.targets_capture_of_none hr]; exact List.nil_sublist _
    | some q =>
      rw [RenderItem.targets_capture_of_some hr, List.map_map]
      exact (List.map_id _).symm ▸ List.filter_sublist
  | resweep d got toRead stage =>
    cases h
    rw [RenderItem.targets_resweep, List.map_map]
    exact (List.map_id _).symm ▸ List.Sublist.refl _
  | wipe a => cases h

theorem RenderItem.mem_targets {p : ParamSet} {i : RenderItem} {c : CellWord} (h : i.cell? = some c) {x : Nat × Bool}
    (hx : x ∈ i.targets p) : x.1 / 16 = c.index :=
  c.mem_columns_iff.1 ((RenderItem.targets_columns h).subset (List.mem_map_of_mem hx))

theorem RenderItem.length_targets_le {p : ParamSet} {i : RenderItem} {c : CellWord} (h : i.cell? = some c) :
    (i.targets p).length ≤ 16 := by
  have := (RenderItem.targets_columns (p := p) h).length_le
  simpa [CellWord.columns] using this

/-! ### Cell words on the panel (R5, R11, R44) -/

theorem mem_spanList_iff {first last x : Nat} : x ∈ spanList first last ↔ first ≤ x ∧ x ≤ last := by
  simp only [spanList, List.mem_map, List.mem_range]
  constructor
  · rintro ⟨k, hk, rfl⟩; omega
  · intro h; exact ⟨x - first, by omega, by omega⟩

theorem Rect.mem_cellWords_iff {r : Rect} {c : CellWord} : c ∈ r.cellWords ↔
    (r.line0 ≤ c.line ∧ c.line ≤ r.line1) ∧ r.column0 / 16 ≤ c.index ∧ c.index ≤ r.column1 / 16 := by
  simp only [Rect.cellWords, List.mem_flatMap, List.mem_map, mem_spanList_iff]
  constructor
  · rintro ⟨l, hl, j, hj, rfl⟩; exact ⟨hl, hj⟩
  · intro h; exact ⟨c.line, h.1, c.index, h.2, rfl⟩

theorem ParamSet.rectangle_bounds {p : ParamSet} {r : CaptureRecord} {q : Rect} (h : p.rectangle r = some q) :
    q.line1 ≤ 511 ∧ q.column1 ≤ 511 := by
  simp only [ParamSet.rectangle, Option.bind_eq_some_iff, Option.map_eq_some_iff] at h
  obtain ⟨_, _, _, _, ls, hl, cs, hc, rfl⟩ := h
  exact ⟨(inverseRange_bounds hl).2, (inverseRange_bounds hc).2⟩

theorem ParamSet.recordWords_of_some {p : ParamSet} {r : CaptureRecord} {q : Rect} (h : p.rectangle r = some q) :
    p.recordWords r = q.cellWords := by
  rw [ParamSet.recordWords, h]

theorem ParamSet.recordWords_of_none {p : ParamSet} {r : CaptureRecord} (h : p.rectangle r = none) :
    p.recordWords r = [] := by
  rw [ParamSet.recordWords, h]

theorem ParamSet.recordWords_onPanel {p : ParamSet} {r : CaptureRecord} {c : CellWord} (h : c ∈ p.recordWords r) :
    c.onPanel := by
  cases hr : p.rectangle r with
  | none => rw [p.recordWords_of_none hr] at h; cases h
  | some q =>
    rw [p.recordWords_of_some hr, Rect.mem_cellWords_iff] at h
    have := p.rectangle_bounds hr
    exact ⟨by omega, by omega⟩

/-! ### The offered word (R70) -/

theorem firstServable_bounds {i l : Nat} {xs : List StaleLine} (h : firstServable i xs = some l) :
    i ≤ l ∧ l < i + xs.length := by
  induction xs generalizing i with
  | nil => cases h
  | cons x xs ih =>
    rw [firstServable] at h
    split at h
    · cases h; simp
    · have := ih h; simp; omega

theorem StaleSet.offer_onPanel {x : StaleSet} (hl : x.posLine < 512) (hw : x.posWord < 32) {c : CellWord}
    (h : x.offer = some c) : c.onPanel := by
  unfold StaleSet.offer at h
  split at h
  · cases h; exact ⟨hl, hw⟩
  · obtain ⟨l, hl', rfl⟩ := Option.map_eq_some_iff.1 h
    refine ⟨show l < 512 from ?_, Nat.zero_lt_succ _⟩
    rcases Option.or_eq_some_iff.1 hl' with h | ⟨-, h⟩
    · have := firstServable_bounds h; simp at this; omega
    · have := firstServable_bounds h; simp at this; omega

theorem StaleSet.takeWord_position {x : StaleSet} {c : CellWord} (hc : c.onPanel) :
    (x.takeWord c).posLine < 512 ∧ (x.takeWord c).posWord < 32 := by
  obtain ⟨hl, hi⟩ := hc
  simp only [StaleSet.takeWord]
  split <;> omega

end Sys2Proof.Machine
end

section
/-! PROOFS. Every step keeps the change queue, the item in hand and the resweep position (R34, R42, R67). -/

namespace Sys2Proof.Machine

variable {s t : State}

/-! ### The closing of an event, and the port's decision -/

theorem State.afterEvent_captureCount_le (s : State) : s.afterEvent.render.captureCount ≤ s.render.captureCount := by
  unfold State.afterEvent
  split
  · exact Nat.le_refl _
  · have hq : s.idleCount.quietCheck.render = s.idleCount.render := by simp
    rw [hq, State.idleCount]
    split
    · exact Nat.zero_le _
    · exact Nat.le_refl _

/-! ### The queue -/

/-- The queue's invariant, from a state with its queue, panel state and position, whose item fits. -/
theorem State.QueueOk.of_item (hs : s.QueueOk) (hq : t.queue = s.queue) (hp : t.seq.panel = s.seq.panel)
    (hpos : t.stale.posLine < 512 ∧ t.stale.posWord < 32)
    (hi : ∀ i, t.render.item = some i → i.Fits s.queue.length ∧ (i.cell?.isSome = true → s.seq.panel = .lit)) :
    t.QueueOk where
  depth := by rw [hq]; exact hs.depth
  distinct := by rw [hq]; exact hs.distinct
  cells := by rw [hq]; exact hs.cells
  outside h := by rw [hq]; rw [hp] at h; exact hs.outside h
  item i h := by rw [hq]; exact (hi i h).1
  lit i h hc := by rw [hp]; exact (hi i h).2 hc
  position := hpos

theorem State.QueueOk.of_same (hs : s.QueueOk) (hq : t.queue = s.queue) (hp : t.seq.panel = s.seq.panel)
    (hpos : t.stale.posLine = s.stale.posLine ∧ t.stale.posWord = s.stale.posWord)
    (hi : t.render.item = s.render.item) : t.QueueOk :=
  hs.of_item hq hp (by rw [hpos.1, hpos.2]; exact hs.position) fun i h =>
    ⟨hs.item i (hi ▸ h), hs.lit i (hi ▸ h)⟩

theorem State.KeepsPicture.queueOk (k : s.KeepsPicture t) (hs : s.QueueOk) : t.QueueOk :=
  hs.of_same k.queue (by rw [k.seq]) k.position (by rw [k.render])

/-- With no order and no item the queue's invariant says nothing but where the position is. -/
theorem State.QueueOk.of_empty (hq : t.queue = []) (hi : t.render.item = none)
    (hpos : t.stale.posLine < 512 ∧ t.stale.posWord < 32) : t.QueueOk where
  depth := by simp [hq]
  distinct := by simp [hq]
  cells := by simp [hq]
  outside _ := hq
  item i h := by rw [hi] at h; cases h
  lit i h := by rw [hi] at h; cases h
  position := hpos

/-- A shorter queue of the same orders in the same state. -/
theorem State.QueueOk.of_sublist (hs : s.QueueOk) (hq : t.queue.Sublist s.queue) (hp : t.seq.panel = s.seq.panel)
    (hpos : t.stale = s.stale) (hi : t.render.item = s.render.item) : t.QueueOk where
  depth := hq.length_le.trans hs.depth
  distinct := hs.distinct.sublist (hq.map _)
  cells o h := hs.cells o (hq.subset h)
  outside h := by rw [hs.outside (hp ▸ h)] at hq; exact List.sublist_nil.1 hq
  item i h := by
    have hfit := hs.item i (hi ▸ h)
    have hle := hq.length_le
    cases i with
    | capture r c rest stage => exact ⟨hfit.1, hfit.2.1, fun e => hle.trans (hfit.2.2 e)⟩
    | resweep c got toRead stage => exact ⟨hfit.1, fun e => hle.trans (hfit.2 e)⟩
    | wipe a => trivial
  lit i h hc := by rw [hp]; exact hs.lit i (hi ▸ h) hc
  position := by rw [hpos]; exact hs.position

/-! ### Items that begin or go on -/

/-- What an item of cell words may be in LIT. -/
def RenderItem.Right (s : State) (i : RenderItem) : Prop :=
  i.Fits s.queue.length ∧ (i.cell?.isSome = true → s.seq.panel = .lit)

theorem State.beginCapture_item {r : CaptureRecord} {c : CellWord} {rest : List CellWord} (hl : s.seq.panel = .lit)
    (hc : c.onPanel) (hrest : ∀ d ∈ rest, d.onPanel) {i : RenderItem}
    (h : (s.beginCapture r c rest).render.item = some i) : i.Right s := by
  rcases Nat.lt_or_ge 240 s.queue.length with hq | hq
  · rw [State.beginCapture_of_full hq] at h
    cases h
    exact ⟨⟨hc, hrest, fun e => by cases e⟩, fun _ => hl⟩
  · rw [State.beginCapture_of_room hq] at h
    cases h
    exact ⟨⟨hc, hrest, fun _ => hq⟩, fun _ => hl⟩

theorem State.nextCaptureWord_item {r : CaptureRecord} {words : List CellWord} (hl : s.seq.panel = .lit)
    (hw : ∀ d ∈ words, d.onPanel) {i : RenderItem} (h : (s.nextCaptureWord r words).render.item = some i) :
    i.Right s := by
  cases words with
  | nil => cases h
  | cons c rest =>
    exact State.beginCapture_item hl (hw c List.mem_cons_self) (fun d hd => hw d (List.mem_cons_of_mem _ hd)) h

theorem State.resweepRead_item {c : CellWord} {got : List (Addr × Word)} {toRead : List Addr} (hl : s.seq.panel = .lit)
    (hc : c.onPanel) (hq : s.queue.length ≤ 240) {i : RenderItem}
    (h : (s.resweepRead c got toRead).render.item = some i) : i.Right s := by
  cases toRead <;> cases h <;> exact ⟨⟨hc, fun _ => hq⟩, fun _ => hl⟩

theorem State.beginResweep_item {c : CellWord} (hl : s.seq.panel = .lit) (hc : c.onPanel) {i : RenderItem}
    (h : (s.beginResweep c).render.item = some i) : i.Right s := by
  rcases Nat.lt_or_ge 240 s.queue.length with hq | hq
  · rw [State.beginResweep_of_full hq] at h
    cases h
    exact ⟨⟨hc, by rintro (e | e) <;> cases e⟩, fun _ => hl⟩
  · rw [State.beginResweep_of_room hq] at h
    exact State.resweepRead_item hl hc hq h

theorem State.cellWordDone_item {i j : RenderItem} {n : Nat} (hfit : i.Fits n)
    (hlit : i.cell?.isSome = true → s.seq.panel = .lit) (h : (s.cellWordDone i).render.item = some j) :
    j.Right s := by
  cases i with
  | capture r c rest stage => exact State.nextCaptureWord_item (hlit rfl) hfit.2.1 h
  | resweep c got toRead stage => cases h
  | wipe a => cases h

/-! ### The comparison of a cell word (R43) -/

/-- R42: a comparison of an item that began with at most 240 orders leaves at most 256, still one for a cell. -/
theorem State.QueueOk.compared (hs : s.QueueOk) {i : RenderItem} {c : CellWord} (hi : s.render.item = some i)
    (hr : i.readingCell = true) (hc : i.cell? = some c) (w : Word) :
    State.QueueOk { s with queue := (compareTargets c.line (i.targets s.standing) s.queue w).1
                           render := { s.render with item := none } } := by
  have hlit : s.seq.panel = .lit := hs.lit i hi (by rw [hc]; rfl)
  have hfit := hs.item i hi
  have hcell : c.onPanel ∧ s.queue.length ≤ 240 := by
    cases i with
    | capture r d rest stage =>
      cases hc
      cases stage <;> cases hr
      exact ⟨hfit.1, hfit.2.2 rfl⟩
    | resweep d got toRead stage =>
      cases hc
      cases stage <;> cases hr
      exact ⟨hfit.1, hfit.2 (.inl rfl)⟩
    | wipe a => cases hc
  refine ⟨?_, ?_, ?_, fun h => absurd hlit h, (fun _ h => nomatch h), (fun _ h => nomatch h), hs.position⟩
  · have h1 := length_compareTargets_le c.line (i.targets s.standing) s.queue w
    have h2 := RenderItem.length_targets_le (p := s.standing) hc
    dsimp only
    omega
  · exact compareTargets_keeps (P := DistinctCells) (fun x _ q hq => hq.changeArrival x.1 c.line x.2) hs.distinct
  · refine compareTargets_keeps (P := fun q => ∀ o ∈ q, o.column < 512 ∧ o.line < 512) (fun x hx q hq o ho => ?_) hs.cells
    rcases mem_changeArrival ho with ho | rfl
    · exact hq o ho
    · have hplace := RenderItem.mem_targets hc hx
      obtain ⟨hline, hindex⟩ := hcell.1
      exact ⟨show x.1 < 512 by omega, hline⟩

theorem RenderItem.Fits.writingBack {i : RenderItem} {n m : Nat} (h : i.Fits n) (w : Word) :
    (i.writingBack w).Fits m := by
  cases i with
  | capture r c rest stage => exact ⟨h.1, h.2.1, fun e => by cases e⟩
  | resweep c got toRead stage => exact ⟨h.1, by rintro (e | e) <;> cases e⟩
  | wipe a => trivial

theorem State.QueueOk.compareCell (hs : s.QueueOk) {i : RenderItem} {c : CellWord} (hi : s.render.item = some i)
    (hr : i.readingCell = true) (hc : i.cell? = some c) (a : Addr) (w : Word) : (s.compareCell i c a w).QueueOk := by
  have hlit : s.seq.panel = .lit := hs.lit i hi (by rw [hc]; rfl)
  by_cases hw : (compareTargets c.line (i.targets s.standing) s.queue w).2 = w
  · rw [State.compareCell_unchanged hw]
    refine (hs.compared hi hr hc w).of_item (by simp) (by simp) (by simpa using hs.position) fun j hj => ?_
    exact State.cellWordDone_item (hs.item i hi) (fun _ => hlit) hj
  · rw [State.compareCell_changed hw]
    refine (hs.compared hi hr hc w).of_item (by simp) (by simp) (by simpa using hs.position) fun j hj => ?_
    cases hj
    exact ⟨(hs.item i hi).writingBack _, fun _ => hlit⟩

/-! ### The rows -/

theorem State.noteWipe_panel (s : State) : s.seq.panel ≠ .lit ∨ s.noteWipe.seq.panel = .lit := by
  obtain ⟨-, h⟩ | ⟨hp, -⟩ | ⟨hp, -⟩ := s.noteWipe_cases
  · rw [h]; exact (em _).symm
  all_goals exact .inl (by rw [hp]; decide)

/-- The queue's invariant when the panel state moves on from a state other than LIT. -/
theorem State.QueueOk.of_panel (hs : s.QueueOk) (hq : t.queue = s.queue) (hi : t.render.item = s.render.item)
    (hpos : t.stale = s.stale) (hp : s.seq.panel ≠ .lit ∨ t.seq.panel = .lit) : t.QueueOk where
  depth := by rw [hq]; exact hs.depth
  distinct := by rw [hq]; exact hs.distinct
  cells := by rw [hq]; exact hs.cells
  outside h := by rw [hq]; exact hp.elim hs.outside fun e => absurd e h
  item i h := by rw [hq]; exact hs.item i (hi ▸ h)
  lit i h hc := hp.elim (fun e => absurd (hs.lit i (hi ▸ h) hc) e) id
  position := by rw [hpos]; exact hs.position

theorem State.takeBurst_sublist (s : State) (o : CellOrder) : (s.takeBurst o).queue.Sublist s.queue := by
  change (remaining s.standing.gatherWindow s.queue).Sublist s.queue
  cases s.queue with
  | nil => exact List.Sublist.refl _
  | cons head rest =>
    have h := (List.filter_sublist (l := rest.take (s.standing.gatherWindow - 1))
      (p := fun x => !head.rides x)).append (List.Sublist.refl (rest.drop (s.standing.gatherWindow - 1)))
    rw [List.take_append_drop] at h
    exact h.trans (List.sublist_cons_self head rest)

theorem State.QueueOk.slot (hs : s.QueueOk) : s.openCycle.slot.QueueOk := by
  have ho : s.openCycle.QueueOk := hs.of_same (by simp) (by simp) ⟨by simp, by simp⟩ (by simp)
  obtain h | ⟨hp, -, h⟩ | ⟨head, rest, -, -, h⟩ := s.openCycle.slot_cases <;> rw [h]
  · exact ho
  · exact ho.of_panel (by simp) (by simp) (by simp) (.inl (by rw [hp]; decide))
  · exact ho.of_sublist (State.takeBurst_sublist _ _) (by simp) (by simp) (by simp)

/-- The work is emptied: the queue and the item in hand are gone. -/
theorem State.WorkEmptied.queueOk (e : s.WorkEmptied t) (hpos : t.stale.posLine < 512 ∧ t.stale.posWord < 32) :
    t.QueueOk := .of_empty e.queue e.item.1 hpos

theorem State.EntersClearing.queueOk (e : s.EntersClearing t) : t.QueueOk :=
  e.emptied.queueOk (by rw [e.stale]; decide)

theorem State.QueueOk.enterCharging (hs : s.QueueOk) (hp : s.seq.panel ≠ .lit) : s.enterCharging.QueueOk :=
  hs.of_panel (by simp) (by simp) (by simp) (.inl hp)

theorem State.QueueOk.enterDark (s : State) : s.enterDark.QueueOk :=
  s.enterDark_emptied.queueOk ⟨Nat.zero_lt_succ _, Nat.zero_lt_succ _⟩

/-- A command that keeps the queue's invariant, with its take and its record. -/
theorem commandRow_queueOk {isMine : Byte → Bool} {act : State → State × CommandOutcome}
    (hact : ∀ {u : State}, u.QueueOk → (act u).1.QueueOk) (h : commandRow isMine act s = some t) (hs : s.QueueOk) :
    t.QueueOk :=
  commandRow_keeps (P := State.QueueOk) (fun k o rest => (State.takeHandOver_keepsPicture _ o rest).queueOk k)
    (fun k code o => (State.recordCommand_keepsPicture _ code o).queueOk k) hact h hs

theorem PictureRow.queueOk {row : State → Option State} (hr : PictureRow row) (hs : s.QueueOk) (h : row s = some t) :
    t.QueueOk := by
  have faults : s.Faults t → t.QueueOk := by
    rintro ⟨-, q, k, -, rfl⟩
    exact (State.recover_emptied _).queueOk (by simpa using hs.position)
  cases hr
  case commit =>
    refine commandRow_queueOk (fun {u} k => ?_) h hs
    obtain h | h | ⟨-, h⟩ := u.doCommit_cases <;> rw [h] <;> exact k.of_same rfl rfl ⟨rfl, rfl⟩ rfl
  case restartPanel =>
    refine commandRow_queueOk (fun {u} k => ?_) h hs
    obtain h | ⟨hp, h⟩ | ⟨-, h⟩ := u.doRestart_cases <;> rw [h]
    · exact k
    · exact k.enterCharging (by rw [hp]; decide)
    · exact u.softRestart_restarts.entry.queueOk
  case stopPanel =>
    refine commandRow_queueOk (fun {u} k => ?_) h hs
    obtain h | h := u.doStop_cases <;> rw [h]
    · exact k
    · exact State.QueueOk.enterDark u
  case clearFaults =>
    refine commandRow_queueOk (fun {u} k => ?_) h hs
    obtain ⟨f, ⟨-, h⟩ | h⟩ := u.doClearFaults_cases <;> rw [h] <;> exact k.of_same rfl rfl ⟨rfl, rfl⟩ rfl
  case commitApply =>
    obtain ⟨new, -, -, ⟨-, -, rfl⟩ | ⟨-, rfl⟩⟩ := rowCommitApply_cases h
    · exact (State.softRestart_restarts _).entry.queueOk
    · exact hs.of_same rfl rfl ⟨rfl, rfl⟩ rfl
  case captureItem =>
    obtain ⟨r, rest, -, hl, -, rfl⟩ := rowCaptureItem_cases h
    have ht : (s.captureTaken rest).QueueOk := hs.of_same rfl rfl ⟨rfl, rfl⟩ rfl
    exact ht.of_item (by simp) (by simp) (by simpa using ht.position) fun i hi =>
      State.nextCaptureWord_item (s := s.captureTaken rest) hl (fun _ hd => ParamSet.recordWords_onPanel hd) hi
  case resweepItem =>
    obtain ⟨c, ho, hl, -, rfl⟩ := rowResweepItem_cases h
    have hc : c.onPanel := StaleSet.offer_onPanel hs.position.1 hs.position.2 ho
    have ht : (s.resweepTaken c).QueueOk :=
      hs.of_item rfl rfl (StaleSet.takeWord_position hc) fun i hi => ⟨hs.item i hi, hs.lit i hi⟩
    exact ht.of_item (by simp) (by simp) (by simpa using ht.position) fun i hi =>
      State.beginResweep_item (s := s.resweepTaken c) hl hc hi
  case wipeItem =>
    obtain ⟨-, -, -, rfl⟩ := rowWipeItem_cases h
    refine hs.of_item (by simp) (by simp) (by simpa using hs.position) fun i hi => ?_
    cases hi
    exact ⟨trivial, fun e => nomatch e⟩
  case freeEntryWaitEnd =>
    obtain ⟨hq, ⟨r, c, rest, hi, rfl⟩ | ⟨c, got, toRead, hi, rfl⟩⟩ := rowFreeEntryWaitEnd_cases h
    · obtain ⟨hc, hrest, -⟩ := hs.item _ hi
      exact hs.of_item (by simp) (by simp) (by simpa using hs.position) fun i hj =>
        State.beginCapture_item (hs.lit _ hi rfl) hc hrest hj
    · exact hs.of_item (by simp) (by simp) (by simpa using hs.position) fun i hj =>
        State.resweepRead_item (hs.lit _ hi rfl) (hs.item _ hi).1 hq hj
  case pictureReadDone =>
    obtain ⟨a, ⟨-, rfl⟩ | ⟨-, c, got, b, more, hi, rfl⟩⟩ := rowPictureReadDone_cases h
    · exact hs.of_same rfl rfl ⟨rfl, rfl⟩ rfl
    · obtain ⟨hc, hq⟩ := hs.item _ hi
      exact hs.of_item (by simp) (by simp) (by simpa using hs.position) fun i hj =>
        State.resweepRead_item (s := s.endGrant) (hs.lit _ hi rfl) hc (hq (.inr rfl)) hj
  case cellWordReadDone =>
    have he : s.endGrant.QueueOk := hs.of_same rfl rfl ⟨rfl, rfl⟩ rfl
    obtain ⟨a, ⟨-, rfl⟩ | ⟨-, i, c, hi, hr, hc, rfl⟩⟩ := rowCellWordReadDone_cases h
    · exact he
    · exact he.compareCell hi hr hc a _
  case writeBackDone =>
    obtain ⟨a, w, ⟨-, rfl⟩ | ⟨-, i, hi, rfl⟩⟩ := rowWriteBackDone_cases h
    · exact hs.of_same rfl rfl ⟨rfl, rfl⟩ rfl
    · exact hs.of_item (by simp [State.writeWord]) (by simp [State.writeWord])
        (by simpa [State.writeWord] using hs.position) fun j hj =>
          State.cellWordDone_item (s := s.endGrant.writeWord a .both w) (hs.item i hi) (hs.lit i hi) hj
  case wipeWriteDone =>
    have hw (a : Addr) : (s.wipeWritten a).QueueOk := hs.of_item rfl rfl hs.position fun _ hi => nomatch hi
    obtain ⟨a, ⟨-, rfl⟩ | ⟨-, ⟨-, rfl⟩ | ⟨-, rfl⟩⟩⟩ := rowWipeWriteDone_cases h
    · exact hs.of_same rfl rfl ⟨rfl, rfl⟩ rfl
    · exact hw a
    · exact (hw a).of_panel (by simp) (by simp) (by simp) (State.noteWipe_panel _)
  case sustainCycleStart =>
    obtain ⟨-, rfl⟩ := rowSustainCycleStart_cases h
    exact hs.slot
  case hvokSeen =>
    obtain ⟨-, rfl⟩ := rowHvokSeen_cases h
    exact s.enterClearing_enters.queueOk
  case hvokLost => exact faults (rowHvokLost_cases h)
  case hvocSeen => exact faults (rowHvocSeen_cases h)
  case groupStrike => exact faults (rowGroupStrike_cases h)
  case chargeTimeout => exact faults (rowChargeTimeout_cases h)
  case restEnd =>
    obtain ⟨hp, ⟨-, rfl⟩ | ⟨-, rfl⟩⟩ := rowRestEnd_cases h
    · exact s.barNoGroups_emptied.queueOk (by simpa using hs.position)
    · exact hs.enterCharging (by rw [hp]; decide)
  case litDurationExpiry =>
    obtain ⟨-, rfl⟩ := rowLitDurationExpiry_cases h
    exact hs.of_same rfl rfl ⟨rfl, rfl⟩ rfl
  case grantDecision =>
    obtain ⟨-, q, rfl, -⟩ := rowGrantDecision_cases h
    exact hs.of_same rfl rfl ⟨rfl, rfl⟩ rfl

theorem PinRow.queueOk {row : State → Option State} (hr : PinRow row) (hs : s.QueueOk) (h : row s = some t) :
    t.QueueOk := by
  cases hr
  case porAssert =>
    obtain ⟨-, rfl⟩ := rowPorAssert_cases h
    exact hs.of_same rfl rfl ⟨rfl, rfl⟩ rfl
  case porEnd =>
    obtain ⟨-, rfl⟩ := rowPorEnd_cases h
    exact .of_empty rfl rfl ⟨Nat.zero_lt_succ _, Nat.zero_lt_succ _⟩
  case sysclr =>
    obtain ⟨-, rfl⟩ | ⟨-, rfl⟩ := rowSysclr_cases h
    · exact hs.of_same rfl rfl ⟨rfl, rfl⟩ rfl
    · exact (State.QueueOk.enterDark s.abortCopy).of_same rfl rfl ⟨rfl, rfl⟩ rfl
  case sysclrNegate => exact (rowSysclrNegate_keepsPicture h).queueOk hs
  case busRead => exact (rowBusRead_keepsPicture h).queueOk hs
  case busWrite => exact (rowBusWrite_keepsPicture h).queueOk hs
  case faultInputChange =>
    obtain ⟨_, _, _, _, _, _, _, _, rfl⟩ := rowFaultInputChange_cases h
    exact hs.of_same rfl rfl ⟨rfl, rfl⟩ rfl

/-- R34, R42, R67: every row keeps the queue, the item in hand and the resweep position. -/
theorem queueOk_kept : KeptByRows State.QueueOk where
  pin hr hs h := hr.queueOk hs h
  inner hr _ hs h := (hr.picture h).elim (fun hp => hp.queueOk hs h) fun k => k.queueOk hs
  after hs := hs.of_same (by simp) (by simp) ⟨by simp, by simp⟩ (by simp)
  pending hs := hs.of_same rfl rfl ⟨rfl, rfl⟩ rfl

end Sys2Proof.Machine
end

section
/-! PROOFS. Every step keeps the capture list within its 16 places (R57, R58, R65, R67–R69). -/

namespace Sys2Proof.Machine

variable {s t u : State} {n : Nat}

/-! ### Places -/

/-- The places a write with decision `d` holds (R58, R65). -/
def GuardDecision.places : GuardDecision → Nat
  | .placed => 1
  | .unplaced | .held | .expired => 0

/-- The places the bus write in hand holds. -/
def Passage.places (p : Passage) : Nat := if p.placed then 1 else 0

theorem Passage.places_write {p : Passage} {a : Addr} {l : Option Lanes} {w : Word} {d : GuardDecision}
    (h : p.inHand = some (.write a l w d)) : p.places = d.places := by
  cases d <;> simp [Passage.places, Passage.placed, GuardDecision.places, h]

theorem Passage.places_none {p : Passage} (h : p.inHand = none) : p.places = 0 := by
  simp [Passage.places, Passage.placed, h]

theorem Passage.places_read {p : Passage} {a : Addr} (h : p.inHand = some (.read a)) : p.places = 0 := by
  simp [Passage.places, Passage.placed, h]

theorem Passage.placed_of_inHand {p q : Passage} (h : q.inHand = p.inHand) :
    q.placed = p.placed ∧ q.holds = p.holds := by
  unfold Passage.placed Passage.holds
  rw [h]
  exact ⟨rfl, rfl⟩

theorem Passage.holds_write {p : Passage} {a : Addr} {l : Option Lanes} {w : Word} {d : GuardDecision}
    (h : p.inHand = some (.write a l w d)) : p.holds = decide (d = .held) := by
  cases d <;> simp [Passage.holds, h]

theorem Passage.holds_none {p : Passage} (h : p.inHand = none) : p.holds = false := by simp [Passage.holds, h]

theorem CopyEngine.places_eq (c : CopyEngine) : c.decision.places = if c.placed then 1 else 0 := by
  unfold CopyEngine.placed
  cases c.decision <;> rfl

/-- The capture list in a panel state, with `n` places held by writes (R57, R69). -/
structure State.ListOk (n : Nat) (s : State) : Prop where
  places : s.capture.records.length + s.capture.reservations ≤ 16
  reserved : s.capture.reservations = n
  outside : s.seq.panel ≠ .lit → s.capture.records = [] ∧ s.capture.reservations = 0
  holds : ∀ l : Fin 512, s.stale.lines[l].hold ≤ s.capture.records.length

theorem State.captureOk_iff : s.CaptureOk ↔ (s.por = false →
    s.ListOk (s.passage.places + s.copy.decision.places) ∧
      (s.seq.panel ≠ .lit → s.passage.holds = false ∧ s.copy.waits = false)) ∧
    (s.copy.outcome ≠ .active → s.copy.step = .none) := by
  rw [CopyEngine.places_eq]
  constructor
  · intro h
    exact ⟨fun hp => ⟨⟨h.places hp, h.reserved hp, fun hl => ⟨(h.outside hp hl).1, (h.outside hp hl).2.1⟩, h.holds hp⟩,
      fun hl => (h.outside hp hl).2.2⟩, h.ended⟩
  · rintro ⟨h, he⟩
    exact ⟨fun hp => (h hp).1.places, fun hp => (h hp).1.reserved, fun hp hl =>
      ⟨((h hp).1.outside hl).1, ((h hp).1.outside hl).2, (h hp).2 hl⟩, fun hp => (h hp).1.holds, he⟩

/-! ### The list at each of its operations -/

theorem State.ListOk.of_same (h : s.ListOk n) (hr : t.capture.records = s.capture.records)
    (hv : t.capture.reservations = s.capture.reservations) (hp : t.seq.panel = s.seq.panel)
    (hl : t.stale.lines = s.stale.lines) : t.ListOk n := by
  obtain ⟨h1, h2, h3, h4⟩ := h
  exact ⟨by rw [hr, hv]; exact h1, hv.trans h2, by rw [hr, hv, hp]; exact h3, by rw [hr, hl]; exact h4⟩

/-- The list is empty: nothing holds a place. -/
theorem State.ListOk.of_empty (hr : t.capture.records = []) (hv : t.capture.reservations = 0)
    (hl : ∀ l : Fin 512, t.stale.lines[l].hold = 0) : t.ListOk 0 :=
  ⟨by rw [hr, hv]; decide, hv, fun _ => ⟨hr, hv⟩, fun l => by rw [hl l]; exact Nat.zero_le _⟩

/-- R57: a write that is over gives back its place. -/
theorem State.ListOk.release {d : GuardDecision} (h : s.ListOk (n + d.places)) :
    State.ListOk n { s with capture := s.capture.release d } := by
  obtain ⟨hle, hres, hout, hold⟩ := h
  cases d with
  | placed =>
    simp only [GuardDecision.places] at hres
    refine ⟨?_, ?_, fun hp => ⟨(hout hp).1, ?_⟩, hold⟩ <;> simp only [CaptureList.release]
    · omega
    · omega
    · rw [(hout hp).2]
  | unplaced | held | expired => exact ⟨hle, hres, hout, hold⟩

/-- R58: a place is reserved in LIT while one is free. -/
theorem State.ListOk.reserve (h : s.ListOk n) (hl : s.seq.panel = .lit) (hf : s.capture.hasFree = true) :
    State.ListOk (n + 1) { s with capture := s.capture.reserve } := by
  have hfree := CaptureList.hasFree_iff.1 hf
  exact ⟨by simp only [CaptureList.reserve]; omega, by simp only [CaptureList.reserve]; rw [h.reserved],
    fun hp => absurd hl hp, h.holds⟩

/-- R57: a record joins the list in LIT while a place is free. -/
theorem State.ListOk.join (h : s.ListOk n) (hl : s.seq.panel = .lit) (hf : s.capture.hasFree = true)
    (r : CaptureRecord) : State.ListOk n { s with capture := s.capture.join r } := by
  have hfree := CaptureList.hasFree_iff.1 hf
  refine ⟨?_, h.reserved, fun hp => absurd hl hp, fun l => ?_⟩
  · simp only [CaptureList.join, List.length_append, List.length_singleton]; omega
  · exact (h.holds l).trans (by simp [CaptureList.join])

/-- R68: a mark holds its lines for the depth of the list. -/
theorem State.ListOk.mark (h : s.ListOk n) (p : Nat → Bool) :
    State.ListOk n { s with stale := s.stale.mark p s.capture.records.length } := by
  refine ⟨h.places, h.reserved, h.outside, fun l => ?_⟩
  change (s.stale.mark p s.capture.records.length).lines[l].hold ≤ s.capture.records.length
  rw [StaleSet.mark_lines]
  split
  · exact Nat.le_refl _
  · exact h.holds l

theorem State.ListOk.overflow (h : s.ListOk n) (a : Addr) (l : Lanes) : (s.overflow a l).ListOk n := by
  have hc : (({ s with capture := { s.capture with overflows := satAdd s.capture.overflows 1 } } :
      State).enterCause .overflow).ListOk n := h.of_same (by simp) (by simp) (by simp) (by simp)
  unfold State.overflow
  dsimp only
  split
  · exact hc
  · exact hc.mark _

/-- R62: the write's record takes its place, or the place is given back. -/
theorem State.ListOk.pictureWritten {d : GuardDecision} (h : s.ListOk (n + d.places)) (a : Addr) (l : Lanes)
    (w : Word) : (s.pictureWritten a l w d).ListOk n := by
  by_cases hl : s.seq.panel = .lit
  · cases d with
    | placed =>
      rw [State.pictureWritten_placed hl]
      have hf : (s.capture.release .placed).hasFree = true := by
        have hplaces := h.places
        have hres := h.reserved
        simp only [GuardDecision.places] at hres
        rw [CaptureList.hasFree_iff]
        simp only [CaptureList.release]
        omega
      exact h.release.join hl hf _
    | unplaced =>
      by_cases hf : s.capture.hasFree = true
      · rw [State.pictureWritten_unplaced_free hl hf]; exact State.ListOk.join (n := n) h hl hf _
      · rw [State.pictureWritten, if_pos hl]
        simp only [hf]
        exact State.ListOk.overflow (n := n) h a l
    | held | expired =>
      rw [State.pictureWritten, if_pos hl]
      exact State.ListOk.overflow (n := n) h a l
  · rw [State.pictureWritten_of_not_lit hl]
    exact h.release

theorem State.ListOk.landed {d : GuardDecision} (h : s.ListOk (n + d.places)) (a : Addr) (l : Lanes) (w : Word) :
    (s.landed a l w d).ListOk n := by
  have hw : (s.writeWord a l w).ListOk (n + d.places) := h.of_same rfl rfl rfl rfl
  unfold State.landed
  dsimp only
  split
  · exact hw.release.of_same rfl rfl rfl rfl
  · exact hw.pictureWritten a l w
  all_goals exact hw.release

theorem State.ListOk.busWritten {d : GuardDecision} (h : s.ListOk (n + d.places)) (a : Addr) (l : Lanes) (w : Word) :
    (s.busWritten a l w d).ListOk n := by
  unfold State.busWritten
  split
  · exact h.release.of_same rfl rfl rfl rfl
  · exact h.landed a l w

/-! ### The invariant as a whole -/

theorem State.CaptureOk.list (h : s.CaptureOk) (hp : s.por = false) :
    s.ListOk (s.passage.places + s.copy.decision.places) := ((State.captureOk_iff.1 h).1 hp).1

theorem State.CaptureOk.nobodyWaits (h : s.CaptureOk) (hp : s.por = false) (hl : s.seq.panel ≠ .lit) :
    s.passage.holds = false ∧ s.copy.waits = false := ((State.captureOk_iff.1 h).1 hp).2 hl

theorem State.CaptureOk.of_list (hl : t.ListOk (t.passage.places + t.copy.decision.places))
    (hw : t.seq.panel ≠ .lit → t.passage.holds = false ∧ t.copy.waits = false)
    (he : t.copy.outcome ≠ .active → t.copy.step = .none) : t.CaptureOk :=
  State.captureOk_iff.2 ⟨fun _ => ⟨hl, hw⟩, he⟩

/-- Between `s` and `t` no place was taken, given or asked for. -/
structure State.KeepsPlaces (s t : State) : Prop where
  por : t.por = s.por
  records : t.capture.records = s.capture.records
  reservations : t.capture.reservations = s.capture.reservations
  inHand : t.passage.inHand = s.passage.inHand
  copy : t.copy = s.copy
  panel : t.seq.panel = s.seq.panel
  holds : ∀ l : Fin 512, t.stale.lines[l].hold = s.stale.lines[l].hold

theorem State.KeepsPlaces.captureOk (k : s.KeepsPlaces t) (h : s.CaptureOk) : t.CaptureOk where
  places hp := by rw [k.records, k.reservations]; exact h.places (k.por ▸ hp)
  reserved hp := by
    rw [k.reservations, k.copy]
    rw [(Passage.placed_of_inHand k.inHand).1]
    exact h.reserved (k.por ▸ hp)
  outside hp hl := by
    rw [k.records, k.reservations, k.copy, (Passage.placed_of_inHand k.inHand).2]
    exact h.outside (k.por ▸ hp) (k.panel ▸ hl)
  holds hp l := by rw [k.holds, k.records]; exact h.holds (k.por ▸ hp) l
  ended := by rw [k.copy]; exact h.ended

theorem State.CaptureOk.of_keeps (h : s.CaptureOk) (k : s.KeepsPlaces t) : t.CaptureOk := k.captureOk h

/-- The rows that take, give or ask for a place, change the panel state, or mark lines. -/
inductive PlaceRow : (State → Option State) → Prop
  | stallExpiry : PlaceRow rowStallExpiry
  | heldWritePlaced : PlaceRow rowHeldWritePlaced
  | passthroughReadDone : PlaceRow rowPassthroughReadDone
  | passthroughWriteDone : PlaceRow rowPassthroughWriteDone
  | restartPanel : PlaceRow rowRestartPanel
  | stopPanel : PlaceRow rowStopPanel
  | startCopy : PlaceRow rowStartCopy
  | cancelCopy : PlaceRow rowCancelCopy
  | resweepAll : PlaceRow rowResweepAll
  | commitApply : PlaceRow rowCommitApply
  | captureItem : PlaceRow rowCaptureItem
  | wipeWriteDone : PlaceRow rowWipeWriteDone
  | sustainCycleStart : PlaceRow rowSustainCycleStart
  | hvokSeen : PlaceRow rowHvokSeen
  | hvokLost : PlaceRow rowHvokLost
  | hvocSeen : PlaceRow rowHvocSeen
  | groupStrike (axis : Axis) (g : Nat) : PlaceRow (rowGroupStrike axis g)
  | chargeTimeout : PlaceRow rowChargeTimeout
  | restEnd : PlaceRow rowRestEnd
  | copyReadDone : PlaceRow rowCopyReadDone
  | copyPlaceGiven : PlaceRow rowCopyPlaceGiven
  | copyWriteDone : PlaceRow rowCopyWriteDone
  | presented : PlaceRow takePresented

theorem State.KeepsPlaces.refl (s : State) : s.KeepsPlaces s := ⟨rfl, rfl, rfl, rfl, rfl, rfl, fun _ => rfl⟩

theorem State.KeepsPlaces.trans (h : s.KeepsPlaces t) (k : t.KeepsPlaces u) : s.KeepsPlaces u where
  por := k.por.trans h.por
  records := k.records.trans h.records
  reservations := k.reservations.trans h.reservations
  inHand := k.inHand.trans h.inHand
  copy := k.copy.trans h.copy
  panel := k.panel.trans h.panel
  holds l := (k.holds l).trans (h.holds l)

theorem State.takeHandOver_keepsPlaces (s : State) (o : HandOver) (rest : List HandOver) :
    s.KeepsPlaces (s.takeHandOver o rest) := by constructor <;> simp

theorem State.recordCommand_keepsPlaces (s : State) (code : Byte) (o : CommandOutcome) :
    s.KeepsPlaces (s.recordCommand code o) := by constructor <;> simp

theorem commandRow_keepsPlaces {isMine : Byte → Bool} {act : State → State × CommandOutcome}
    (hact : ∀ u : State, u.KeepsPlaces (act u).1) (h : commandRow isMine act s = some t) : s.KeepsPlaces t :=
  commandRow_keeps (P := fun u => s.KeepsPlaces u) (fun k o rest => k.trans (State.takeHandOver_keepsPlaces _ o rest))
    (fun k code o => k.trans (State.recordCommand_keepsPlaces _ code o)) (fun k => k.trans (hact _)) h
    (State.KeepsPlaces.refl s)

/-- Every other row of the blocks leaves the places alone. -/
theorem InnerRow.places {row : State → Option State} (hr : InnerRow row) (h : row s = some t) :
    PlaceRow row ∨ s.KeepsPlaces t := by
  cases hr
  case stagedWrite =>
    obtain ⟨o, rest, rfl⟩ := rowStagedWrite_cases h
    exact .inr ((s.takeHandOver_keepsPlaces o rest).trans ⟨rfl, rfl, rfl, rfl, rfl, rfl, fun _ => rfl⟩)
  case commit =>
    refine .inr (commandRow_keepsPlaces (fun u => ?_) h)
    obtain h | h | ⟨-, h⟩ := u.doCommit_cases <;> rw [h] <;> exact ⟨rfl, rfl, rfl, rfl, rfl, rfl, fun _ => rfl⟩
  case clearFaults =>
    refine .inr (commandRow_keepsPlaces (fun u => ?_) h)
    obtain ⟨f, ⟨-, h⟩ | h⟩ := u.doClearFaults_cases <;> rw [h] <;> exact ⟨rfl, rfl, rfl, rfl, rfl, rfl, fun _ => rfl⟩
  case release => exact .inr (commandRow_keepsPlaces (fun u => ⟨rfl, rfl, rfl, rfl, rfl, rfl, fun _ => rfl⟩) h)
  case reportNow => exact .inr (commandRow_keepsPlaces State.KeepsPlaces.refl h)
  case unknownCommand => exact .inr (commandRow_keepsPlaces State.KeepsPlaces.refl h)
  case resweepItem =>
    obtain ⟨c, -, -, -, rfl⟩ := rowResweepItem_cases h
    refine .inr ?_
    constructor <;> simp [State.resweepTaken]
    intro l
    change (s.stale.takeWord c).lines[l].hold = _
    rw [StaleSet.takeWord_lines]
    split <;> rfl
  case wipeItem =>
    obtain ⟨-, -, -, rfl⟩ := rowWipeItem_cases h
    exact .inr (by constructor <;> simp)
  case freeEntryWaitEnd =>
    obtain ⟨-, ⟨r, c, rest, -, rfl⟩ | ⟨c, got, toRead, -, rfl⟩⟩ := rowFreeEntryWaitEnd_cases h <;>
      exact .inr (by constructor <;> simp)
  case pictureReadDone =>
    obtain ⟨a, ⟨-, rfl⟩ | ⟨-, c, got, b, more, -, rfl⟩⟩ := rowPictureReadDone_cases h <;>
      exact .inr (by constructor <;> simp)
  case cellWordReadDone =>
    obtain ⟨a, ⟨-, rfl⟩ | ⟨-, i, c, -, -, -, rfl⟩⟩ := rowCellWordReadDone_cases h <;>
      exact .inr (by constructor <;> simp)
  case writeBackDone =>
    obtain ⟨a, w, ⟨-, rfl⟩ | ⟨-, i, -, rfl⟩⟩ := rowWriteBackDone_cases h <;>
      exact .inr (by constructor <;> simp [State.writeWord])
  case phaseBStart => rw [rowPhaseBStart_cases h]; exact .inr ⟨rfl, rfl, rfl, rfl, rfl, rfl, fun _ => rfl⟩
  case addressPulseStart =>
    obtain ⟨p, rfl⟩ := rowAddressPulseStart_cases h
    exact .inr ⟨rfl, rfl, rfl, rfl, rfl, rfl, fun _ => rfl⟩
  case addressPulseEnd => rw [rowAddressPulseEnd_cases h]; exact .inr ⟨rfl, rfl, rfl, rfl, rfl, rfl, fun _ => rfl⟩
  case rampTick => rw [rowRampTick_cases h]; exact .inr ⟨rfl, rfl, rfl, rfl, rfl, rfl, fun _ => rfl⟩
  case litDurationExpiry =>
    obtain ⟨-, rfl⟩ := rowLitDurationExpiry_cases h
    exact .inr ⟨rfl, rfl, rfl, rfl, rfl, rfl, fun _ => rfl⟩
  case refreshDue => rw [rowRefreshDue_cases h]; exact .inr ⟨rfl, rfl, rfl, rfl, rfl, rfl, fun _ => rfl⟩
  case refreshDone =>
    obtain ⟨-, rfl⟩ := rowRefreshDone_cases h
    exact .inr ⟨rfl, rfl, rfl, rfl, rfl, rfl, fun _ => rfl⟩
  case grantDecision =>
    obtain ⟨-, q, rfl, -⟩ := rowGrantDecision_cases h
    exact .inr ⟨rfl, rfl, rfl, rfl, rfl, rfl, fun _ => rfl⟩
  case reportBlockGrant =>
    obtain ⟨-, rfl⟩ := rowReportBlockGrant_cases h
    exact .inr ⟨rfl, rfl, rfl, rfl, rfl, rfl, fun _ => rfl⟩
  case reportBlockDone =>
    obtain ⟨words, -, rfl⟩ := rowReportBlockDone_cases h
    exact .inr (by constructor <;> simp)
  case imageGrantDone =>
    obtain ⟨k, u, -, rfl, ⟨-, rfl⟩ | rfl⟩ := rowImageGrantDone_cases h <;> exact .inr (by constructor <;> simp)
  all_goals exact .inl (by constructor)

/-! ### Entries to the panel states -/

theorem State.WorkEmptied.passage (e : s.WorkEmptied t) : t.passage.places = 0 ∧ t.passage.holds = false := by
  by_cases hh : ∃ a l w, s.passage.inHand = some (.write a l w .held)
  · obtain ⟨a, l, w, h⟩ := hh
    rw [(e.held a l w h).1]
    exact ⟨rfl, rfl⟩
  · by_cases hp : ∃ a l w, s.passage.inHand = some (.write a l w .placed)
    · obtain ⟨a, l, w, h⟩ := hp
      rw [(e.placed a l w h).1]
      exact ⟨rfl, rfl⟩
    · have hh' : ∀ a l w, s.passage.inHand ≠ some (.write a l w .held) := fun a l w h => hh ⟨a, l, w, h⟩
      have hp' : ∀ a l w, s.passage.inHand ≠ some (.write a l w .placed) := fun a l w h => hp ⟨a, l, w, h⟩
      rw [(e.other hh' hp').1]
      refine ⟨?_, (Passage.emptied_other hh' hp').2⟩
      rcases hc : s.passage.inHand with _ | ⟨a⟩ | ⟨a, l, w, d⟩
      · exact Passage.places_none hc
      · exact Passage.places_read hc
      · rw [Passage.places_write hc]
        cases d with
        | placed => exact absurd hc (hp' a l w)
        | unplaced | held | expired => rfl

theorem State.CopyLetGo.copy (g : s.CopyLetGo t) : t.copy.decision.places = 0 ∧ t.copy.waits = false ∧
    t.copy.outcome = s.copy.outcome ∧ (s.copy.step = .none → t.copy.step = .none) := by
  by_cases hw : ∃ w, s.copy.step = .waitPlace w
  · obtain ⟨w, h⟩ := hw
    rw [(g.waiting w h).1, h]
    exact ⟨rfl, rfl, rfl, fun e => nomatch e⟩
  · by_cases hp : ∃ w, s.copy.step = .destWrite w .placed
    · obtain ⟨w, h⟩ := hp
      rw [(g.placed w h).1, h]
      exact ⟨rfl, rfl, rfl, fun e => nomatch e⟩
    · rw [(g.other (fun w h => hw ⟨w, h⟩) (fun w h => hp ⟨w, h⟩)).1]
      refine ⟨?_, ?_, rfl, id⟩
      · unfold CopyEngine.decision
        cases hc : s.copy.step with
        | destWrite w d =>
          cases d with
          | placed => exact absurd ⟨w, hc⟩ hp
          | unplaced | held | expired => rfl
        | none | sourceRead | waitPlace w => rfl
      · unfold CopyEngine.waits
        cases hc : s.copy.step with
        | waitPlace w => exact absurd ⟨w, hc⟩ hw
        | none | sourceRead | destWrite w d => rfl

/-- With the work emptied and the copy let go nobody holds a place or waits for one. -/
theorem State.CaptureOk.of_emptied (e : s.WorkEmptied t) (g : s.CopyLetGo t)
    (he : s.copy.outcome ≠ .active → s.copy.step = .none) : t.CaptureOk := by
  obtain ⟨hp, hh⟩ := e.passage
  obtain ⟨hd, hw, ho, hn⟩ := g.copy
  refine .of_list ?_ (fun _ => ⟨hh, hw⟩) fun h => hn (he (ho ▸ h))
  rw [hp, hd]
  exact .of_empty (by rw [e.list]) (by rw [e.list]) e.holds

theorem State.Faults.captureOk (h : s.Faults t) (hs : s.CaptureOk) : t.CaptureOk := by
  obtain ⟨-, q, k, -, rfl⟩ := h
  exact .of_emptied (State.recover_emptied _) (State.recover_letsGo _) (by simpa using hs.ended)

/-- The panel state moves on from one without work to another. -/
theorem State.CaptureOk.of_panel (h : s.CaptureOk) (hp : s.por = false) (hl : s.seq.panel ≠ .lit)
    (hc : t.capture = s.capture) (hg : t.passage = s.passage) (hy : t.copy = s.copy) (hx : t.stale = s.stale) :
    t.CaptureOk := by
  obtain ⟨hr, hv, hh, hw⟩ := h.outside hp hl
  have hlist := h.list hp
  refine .of_list ?_ (fun _ => by rw [hg, hy]; exact ⟨hh, hw⟩) (by rw [hy]; exact h.ended)
  rw [hg, hy, ← hlist.reserved, hv]
  refine .of_empty (by rw [hc]; exact hr) (by rw [hc]; exact hv) fun l => ?_
  have := hlist.holds l
  rw [hr] at this
  rw [hx]
  exact Nat.le_zero.1 this

theorem State.CaptureOk.slot (h : s.CaptureOk) (hp : s.por = false) : s.openCycle.slot.CaptureOk := by
  have hk : s.KeepsPlaces s.openCycle := by constructor <;> simp
  have ho := hk.captureOk h
  obtain e | ⟨hc, -, e⟩ | ⟨head, rest, -, -, e⟩ := s.openCycle.slot_cases <;> rw [e]
  · exact ho
  · exact ho.of_panel (by simpa using hp) (by rw [hc]; decide) (by simp) (by simp) (by simp) (by simp)
  · have hb : s.openCycle.KeepsPlaces (s.openCycle.takeBurst head) := by constructor <;> simp
    exact hb.captureOk ho

/-! ### The bus passage and the copy engine -/

/-- R58, R61: what the passage holds after its guard decision fits what the list has reserved for it. -/
theorem State.CaptureOk.takeWrite (h : s.CaptureOk) (hp : s.por = false) (hn : s.passage.inHand = none) (a : Addr)
    (v b : Bool) (w : Word) : (s.takeWrite a v b w).CaptureOk := by
  have hl := h.list hp
  rw [Passage.places_none hn, Nat.zero_add] at hl
  have hw := h.nobodyWaits hp
  obtain e | ⟨hlit, hf, e⟩ | e | ⟨hlit, e⟩ := s.takeWrite_cases a v b w <;> rw [e]
  · exact .of_list ((Nat.zero_add _).symm ▸ hl.of_same rfl rfl rfl rfl) (fun hp => ⟨rfl, (hw hp).2⟩) h.ended
  · exact .of_list ((Nat.add_comm _ _) ▸ (hl.reserve hlit hf).of_same rfl rfl rfl rfl) (fun hp => absurd hlit hp) h.ended
  · exact .of_list ((Nat.zero_add _).symm ▸ hl.of_same rfl rfl rfl rfl) (fun hp => ⟨rfl, (hw hp).2⟩) h.ended
  · exact .of_list ((Nat.zero_add _).symm ▸ hl.of_same rfl rfl rfl rfl) (fun hp => absurd hlit hp) h.ended

theorem State.CaptureOk.takeRead (h : s.CaptureOk) (hp : s.por = false) (hn : s.passage.inHand = none) (a : Addr) :
    (s.takeRead a).CaptureOk := by
  have hl := h.list hp
  rw [Passage.places_none hn, Nat.zero_add] at hl
  exact .of_list ((Nat.zero_add _).symm ▸ hl.of_same rfl rfl rfl rfl) (fun hl => ⟨rfl, (h.nobodyWaits hp hl).2⟩) h.ended

/-- R65: what the copy engine holds after its guard decision fits what the list has reserved for it. -/
theorem State.CaptureOk.beginCopyWrite (hl : s.ListOk s.passage.places) (hw : s.seq.panel ≠ .lit → s.passage.holds = false)
    (ha : s.copy.outcome = .active) (w : Word) : (s.beginCopyWrite w).CaptureOk := by
  obtain e | ⟨hlit, hf, e⟩ | ⟨hlit, e⟩ := s.beginCopyWrite_cases w <;> rw [e]
  · exact .of_list (hl.of_same rfl rfl rfl rfl) (fun hp => ⟨hw hp, rfl⟩) (fun hn => absurd ha hn)
  · exact .of_list ((hl.reserve hlit hf).of_same rfl rfl rfl rfl) (fun hp => absurd hlit hp) (fun hn => absurd ha hn)
  · exact .of_list (hl.of_same rfl rfl rfl rfl) (fun hp => absurd hlit hp) (fun hn => absurd ha hn)

theorem State.CaptureOk.beginCopyWord (hl : s.ListOk s.passage.places) (hw : s.seq.panel ≠ .lit → s.passage.holds = false)
    (ha : s.copy.outcome = .active) {q : CopyRequest} (hq : s.copy.request = some q) : s.beginCopyWord.CaptureOk := by
  unfold State.beginCopyWord
  rw [hq]
  dsimp only
  cases q.mode with
  | copy => exact .of_list (hl.of_same rfl rfl rfl rfl) (fun hp => ⟨hw hp, rfl⟩) (fun hn => absurd ha hn)
  | fill => exact .beginCopyWrite hl hw ha q.fill

theorem State.CaptureOk.endCopy (hl : s.ListOk s.passage.places) (hw : s.seq.panel ≠ .lit → s.passage.holds = false)
    (o : CopyOutcome) : (s.endCopy o).CaptureOk := by
  have hc : (s.endCopy o).copy.step = .none := by unfold State.endCopy; dsimp only; split <;> rfl
  have hg : (s.endCopy o).passage = s.passage := by simp
  have hs : (s.endCopy o).seq = s.seq := by simp
  refine .of_list ?_ (fun hp => ⟨by rw [hg]; exact hw (hs ▸ hp), by rw [CopyEngine.waits, hc]⟩) fun _ => hc
  have h0 : (s.endCopy o).copy.decision.places = 0 := by rw [CopyEngine.decision, hc]; rfl
  rw [h0, hg]
  exact hl.of_same (by simp) (by simp) (by simp) (by simp)

/-- R57: what the copy's write held is given back or taken by its record. -/
theorem State.CaptureOk.copyWritten {d : GuardDecision} (hl : s.ListOk (s.passage.places + d.places))
    (hw : s.seq.panel ≠ .lit → s.passage.holds = false) (ha : s.copy.outcome = .active) {q : CopyRequest}
    (hq : s.copy.request = some q) (a : Addr) (w : Word) : (s.copyWritten q a w d).CaptureOk := by
  unfold State.copyWritten
  split
  · exact .endCopy (s := { s with capture := s.capture.release d }) hl.release hw _
  · have hland : (s.landed a .both w d).ListOk (s.landed a .both w d).passage.places := by
      simpa using hl.landed a .both w
    have hpass : (s.landed a .both w d).seq.panel ≠ .lit → (s.landed a .both w d).passage.holds = false := by
      simpa using hw
    have hmoved : ((s.landed a .both w d).copyMoved q).ListOk (s.landed a .both w d).passage.places :=
      hland.of_same rfl rfl rfl rfl
    obtain ⟨-, e⟩ | ⟨-, ⟨-, -, e⟩ | ⟨-, e⟩⟩ := (s.landed a .both w d).copyAdvance_cases q <;> rw [e]
    · exact .endCopy (s := (s.landed a .both w d).copyMoved q) hmoved hpass _
    · exact .endCopy (s := (s.landed a .both w d).copyMoved q) hmoved hpass _
    · exact .beginCopyWord hmoved hpass (by simpa [State.copyMoved] using ha) (q := q)
        (by simpa [State.copyMoved] using hq)

/-- A command that keeps the places in order while POR is negated, with its take and its record. -/
theorem commandRow_captureOk {isMine : Byte → Bool} {act : State → State × CommandOutcome}
    (hact : ∀ {u : State}, u.por = false → u.CaptureOk → (act u).1.por = false ∧ (act u).1.CaptureOk)
    (hp : s.por = false) (h : commandRow isMine act s = some t) (hs : s.CaptureOk) : t.CaptureOk :=
  (commandRow_keeps (P := fun u => u.por = false ∧ u.CaptureOk)
    (fun k o rest => ⟨by simpa using k.1, (State.takeHandOver_keepsPlaces _ o rest).captureOk k.2⟩)
    (fun k code o => ⟨by simpa using k.1, (State.recordCommand_keepsPlaces _ code o).captureOk k.2⟩)
    (fun k => hact k.1 k.2) h ⟨hp, hs⟩).2

theorem State.CaptureOk.doCancelCopy (hs : s.CaptureOk) (hp : s.por = false) : s.doCancelCopy.1.CaptureOk := by
  obtain e | ⟨ha, -, ⟨-, e⟩ | ⟨-, e⟩⟩ := s.doCancelCopy_cases <;> rw [e]
  · exact hs
  · exact .of_list (hs.list hp |>.of_same rfl rfl rfl rfl) (hs.nobodyWaits hp) fun hn => absurd ha hn
  · refine .endCopy ?_ ?_ _
    · exact State.ListOk.release (s := { s with port := { s.port with copyWaiting := none } })
        ((hs.list hp).of_same rfl rfl rfl rfl)
    · exact fun hl => (hs.nobodyWaits hp hl).1

theorem State.CaptureOk.doStartCopy (hs : s.CaptureOk) (hp : s.por = false) : s.doStartCopy.1.CaptureOk := by
  obtain e | ⟨ha, e⟩ := s.doStartCopy_cases <;> rw [e]
  · exact hs
  · have h0 : s.copy.decision.places = 0 := by rw [CopyEngine.decision, hs.ended ha]; rfl
    have hl := hs.list hp
    rw [h0] at hl
    exact .beginCopyWord (hl.of_same rfl rfl rfl rfl) (fun hl => (hs.nobodyWaits hp hl).1) rfl rfl

theorem State.CaptureOk.mark (hs : s.CaptureOk) (hp : s.por = false) (p : Nat → Bool) :
    State.CaptureOk { s with stale := s.stale.mark p s.capture.records.length } :=
  .of_list ((hs.list hp).mark p) (hs.nobodyWaits hp) hs.ended

theorem State.CaptureOk.enterCharging (hs : s.CaptureOk) (hp : s.por = false) (hl : s.seq.panel ≠ .lit) :
    s.enterCharging.CaptureOk := hs.of_panel hp hl (by simp) (by simp) (by simp) (by simp)

theorem PlaceRow.captureOk {row : State → Option State} (hr : PlaceRow row) (hp : s.por = false) (hs : s.CaptureOk)
    (h : row s = some t) : t.CaptureOk := by
  have hlist := hs.list hp
  have hwait := hs.nobodyWaits hp
  cases hr
  case stallExpiry =>
    obtain ⟨a, l, w, hc, rfl⟩ := rowStallExpiry_cases h
    rw [Passage.places_write hc] at hlist
    exact .of_list (hlist.of_same rfl rfl rfl rfl) (fun hl => ⟨rfl, (hwait hl).2⟩) hs.ended
  case heldWritePlaced =>
    obtain ⟨a, l, w, hc, hf, rfl⟩ := rowHeldWritePlaced_cases h
    have hlit : s.seq.panel = .lit := by
      by_contra hl
      have := (hwait hl).1
      rw [Passage.holds_write hc] at this
      cases this
    rw [Passage.places_write hc, Nat.add_comm] at hlist
    exact .of_list ((Nat.add_comm _ _) ▸ (hlist.reserve hlit hf).of_same rfl rfl rfl rfl) (fun hl => absurd hlit hl)
      hs.ended
  case passthroughReadDone =>
    obtain ⟨a, -, hc, rfl⟩ := rowPassthroughReadDone_cases h
    rw [Passage.places_read hc] at hlist
    exact .of_list (hlist.of_same rfl rfl rfl rfl) (fun hl => ⟨rfl, (hwait hl).2⟩) hs.ended
  case passthroughWriteDone =>
    obtain ⟨a, lanes, w, d, -, hc, hlanes⟩ := rowPassthroughWriteDone_cases h
    rw [Passage.places_write hc, Nat.add_comm] at hlist
    have hend : s.endGrant.endCycle.ListOk (s.copy.decision.places + d.places) := hlist.of_same rfl rfl rfl rfl
    obtain ⟨-, rfl⟩ | ⟨l, -, rfl⟩ := hlanes
    · exact .of_list ((Nat.zero_add _).symm ▸ hend.release) (fun hl => ⟨rfl, (hwait hl).2⟩) hs.ended
    · have hin : (s.endGrant.endCycle.busWritten a l w d).passage.inHand = none := by simp [State.endCycle]
      refine .of_list ?_ (fun hl => ⟨Passage.holds_none hin, ?_⟩) (by simpa using hs.ended)
      · rw [Passage.places_none hin, Nat.zero_add]
        simpa using hend.busWritten a l w
      · simpa using (hwait (by simpa using hl)).2
  case restartPanel =>
    refine commandRow_captureOk (fun {u} hp k => ⟨?_, ?_⟩) hp h hs
    · obtain e | ⟨-, e⟩ | ⟨-, e⟩ := u.doRestart_cases <;> rw [e] <;> simpa using hp
    · obtain e | ⟨hd, e⟩ | ⟨-, e⟩ := u.doRestart_cases <;> rw [e]
      · exact k
      · exact k.enterCharging hp (by rw [hd]; decide)
      · exact .of_emptied u.softRestart_restarts.entry.emptied u.softRestart_restarts.entry.copy k.ended
  case stopPanel =>
    refine commandRow_captureOk (fun {u} hp k => ⟨?_, ?_⟩) hp h hs
    · obtain e | e := u.doStop_cases <;> rw [e] <;> simpa using hp
    · obtain e | e := u.doStop_cases <;> rw [e]
      · exact k
      · exact .of_emptied u.enterDark_emptied u.enterDark_letsGo k.ended
  case startCopy =>
    refine commandRow_captureOk (fun {u} hp k => ⟨?_, k.doStartCopy hp⟩) hp h hs
    rw [(State.doStartCopy_keepsPicture u).por]; exact hp
  case cancelCopy =>
    refine commandRow_captureOk (fun {u} hp k => ⟨?_, k.doCancelCopy hp⟩) hp h hs
    rw [(State.doCancelCopy_keepsPicture u).por]; exact hp
  case resweepAll =>
    refine commandRow_captureOk (fun {u} hp k => ⟨?_, ?_⟩) hp h hs
    · rw [(State.doResweepAll_keepsPicture u).por]; exact hp
    · obtain e | e := u.doResweepAll_cases <;> rw [e]
      · exact k
      · exact k.mark hp _
  case commitApply =>
    obtain ⟨new, -, -, ⟨-, -, rfl⟩ | ⟨-, rfl⟩⟩ := rowCommitApply_cases h
    · have r := (s.commitApplied new).softRestart_restarts
      exact .of_emptied r.entry.emptied r.entry.copy hs.ended
    · exact .of_list ((hlist.mark _).of_same rfl rfl rfl rfl) hwait hs.ended
  case captureItem =>
    obtain ⟨r, rest, hrec, hl, -, rfl⟩ := rowCaptureItem_cases h
    have htaken : (s.captureTaken rest).CaptureOk := by
      refine .of_list ⟨?_, hlist.reserved, fun hn => absurd hl hn, fun l => ?_⟩ (fun hn => absurd hl hn) hs.ended
      · have := hlist.places
        rw [hrec, List.length_cons] at this
        exact (by omega : rest.length + s.capture.reservations ≤ 16)
      · have := hlist.holds l
        rw [hrec, List.length_cons] at this
        change s.stale.lowerHolds.lines[l].hold ≤ rest.length
        rw [StaleSet.lowerHolds_lines]
        exact (by omega : s.stale.lines[l].hold - 1 ≤ rest.length)
    refine State.KeepsPlaces.captureOk (s := s.captureTaken rest) ?_ htaken
    constructor <;> simp
  case wipeWriteDone =>
    have hw (a : Addr) : s.KeepsPlaces (s.wipeWritten a) := ⟨rfl, rfl, rfl, rfl, rfl, rfl, fun _ => rfl⟩
    obtain ⟨a, ⟨-, rfl⟩ | ⟨-, ⟨-, rfl⟩ | ⟨-, rfl⟩⟩⟩ := rowWipeWriteDone_cases h
    · exact hs.of_keeps ⟨rfl, rfl, rfl, rfl, rfl, rfl, fun _ => rfl⟩
    · exact (hw a).captureOk hs
    · have hk := (hw a).captureOk hs
      obtain ⟨-, e⟩ | ⟨hc, -⟩ | ⟨hc, -⟩ := (s.wipeWritten a).noteWipe_cases
      · rw [e]; exact hk
      all_goals exact hk.of_panel hp (by rw [hc]; decide) (by simp) (by simp) (by simp) (by simp)
  case sustainCycleStart =>
    obtain ⟨-, rfl⟩ := rowSustainCycleStart_cases h
    exact hs.slot hp
  case hvokSeen =>
    obtain ⟨-, rfl⟩ := rowHvokSeen_cases h
    exact .of_emptied s.enterClearing_enters.emptied s.enterClearing_enters.copy hs.ended
  case hvokLost => exact (rowHvokLost_cases h).captureOk hs
  case hvocSeen => exact (rowHvocSeen_cases h).captureOk hs
  case groupStrike => exact (rowGroupStrike_cases h).captureOk hs
  case chargeTimeout => exact (rowChargeTimeout_cases h).captureOk hs
  case restEnd =>
    obtain ⟨hc, ⟨-, rfl⟩ | ⟨-, rfl⟩⟩ := rowRestEnd_cases h
    · exact .of_emptied s.barNoGroups_emptied s.barNoGroups_letsGo hs.ended
    · exact hs.enterCharging hp (by rw [hc]; decide)
  case copyReadDone =>
    obtain ⟨a, ⟨-, rfl⟩ | ⟨-, hstep, hdone⟩⟩ := rowCopyReadDone_cases h
    · exact hs.of_keeps ⟨rfl, rfl, rfl, rfl, rfl, rfl, fun _ => rfl⟩
    · have h0 : s.copy.decision.places = 0 := by rw [CopyEngine.decision, hstep]; rfl
      rw [h0] at hlist
      have hend : s.endGrant.ListOk s.endGrant.passage.places := hlist.of_same rfl rfl rfl rfl
      have hact : s.copy.outcome = .active := by
        by_contra hn
        rw [hs.ended hn] at hstep
        cases hstep
      obtain ⟨-, rfl⟩ | ⟨-, rfl⟩ := hdone
      · exact .endCopy hend (fun hl => (hwait hl).1) _
      · exact .beginCopyWrite hend (fun hl => (hwait hl).1) hact _
  case copyPlaceGiven =>
    obtain ⟨w, hstep, hf, rfl⟩ := rowCopyPlaceGiven_cases h
    have h0 : s.copy.decision.places = 0 := by rw [CopyEngine.decision, hstep]; rfl
    have hlit : s.seq.panel = .lit := by
      by_contra hl
      have := (hwait hl).2
      rw [CopyEngine.waits, hstep] at this
      cases this
    have hact : s.copy.outcome = .active := by
      by_contra hn
      rw [hs.ended hn] at hstep
      cases hstep
    rw [h0] at hlist
    exact .of_list ((hlist.reserve hlit hf).of_same rfl rfl rfl rfl) (fun hl => absurd hlit hl) fun hn => absurd hact hn
  case copyWriteDone =>
    obtain ⟨a, w, ⟨-, rfl⟩ | ⟨-, v, d, q, hstep, hq, rfl⟩⟩ := rowCopyWriteDone_cases h
    · have hk : s.endGrant.CaptureOk := hs.of_keeps ⟨rfl, rfl, rfl, rfl, rfl, rfl, fun _ => rfl⟩
      unfold State.orphanCopyWritten
      split
      · exact hk
      · refine .of_list ?_ (by simpa using hwait) (by simpa using hs.ended)
        simpa using (hk.list hp).landed (d := .unplaced) a .both w
    · have hd : s.copy.decision = d := by rw [CopyEngine.decision, hstep]
      have hact : s.copy.outcome = .active := by
        by_contra hn
        rw [hs.ended hn] at hstep
        cases hstep
      rw [hd] at hlist
      exact .copyWritten (s := s.endGrant) (hlist.of_same rfl rfl rfl rfl) (fun hl => (hwait hl).1) hact hq a w
  case presented =>
    obtain ⟨hn, ⟨a, rfl⟩ | ⟨a, v, b, w, rfl⟩⟩ := takePresented_cases h
    · exact hs.takeRead hp hn a
    · exact hs.takeWrite hp hn a v b w

theorem PinRow.captureOk {row : State → Option State} (hr : PinRow row) (hs : s.CaptureOk) (h : row s = some t) :
    t.CaptureOk := by
  cases hr
  case porAssert =>
    obtain ⟨-, rfl⟩ := rowPorAssert_cases h
    exact State.captureOk_iff.2 ⟨(fun hp => nomatch hp), hs.ended⟩
  case porEnd =>
    obtain ⟨-, rfl⟩ := rowPorEnd_cases h
    exact .of_list (.of_empty rfl rfl fun l => congrArg StaleLine.hold (StaleSet.clear_lines l)) (fun _ => ⟨rfl, rfl⟩)
      fun _ => rfl
  case sysclr =>
    obtain ⟨-, rfl⟩ | ⟨-, rfl⟩ := rowSysclr_cases h
    · exact hs.of_keeps ⟨rfl, rfl, rfl, rfl, rfl, rfl, fun _ => rfl⟩
    · have hended : s.abortCopy.copy.outcome ≠ .active → s.abortCopy.copy.step = .none := by
        obtain ⟨-, e⟩ | ⟨-, e⟩ := s.abortCopy_cases <;> rw [e]
        · exact hs.ended
        · exact fun _ => rfl
      have hd : s.abortCopy.enterDark.CaptureOk :=
        .of_emptied s.abortCopy.enterDark_emptied s.abortCopy.enterDark_letsGo hended
      exact hd.of_keeps ⟨rfl, rfl, rfl, rfl, rfl, rfl, fun _ => rfl⟩
  case sysclrNegate =>
    rw [rowSysclrNegate_cases h]
    exact hs.of_keeps ⟨rfl, rfl, rfl, rfl, rfl, rfl, fun _ => rfl⟩
  case busRead =>
    obtain ⟨hn, rfl | ⟨hp, rfl⟩⟩ := rowBusRead_cases h
    · exact hs.of_keeps ⟨rfl, rfl, rfl, rfl, rfl, rfl, fun _ => rfl⟩
    · exact hs.takeRead hp hn _
  case busWrite =>
    obtain ⟨hn, rfl | ⟨hp, rfl⟩⟩ := rowBusWrite_cases h
    · exact hs.of_keeps ⟨rfl, rfl, rfl, rfl, rfl, rfl, fun _ => rfl⟩
    · exact hs.takeWrite hp hn _ _ _ _
  case faultInputChange =>
    obtain ⟨_, _, _, _, _, _, _, _, rfl⟩ := rowFaultInputChange_cases h
    exact hs.of_keeps ⟨rfl, rfl, rfl, rfl, rfl, rfl, fun _ => rfl⟩

/-- R57, R58, R65, R69: every row keeps the places of the capture list and the holds within its depth. -/
theorem captureOk_kept : KeptByRows State.CaptureOk where
  pin hr hs h := hr.captureOk hs h
  inner hr hp hs h := (hr.places h).elim (fun k => k.captureOk hp hs h) fun k => k.captureOk hs
  after hs := hs.of_keeps (by constructor <;> simp)
  pending hs := hs.of_keeps ⟨rfl, rfl, rfl, rfl, rfl, rfl, fun _ => rfl⟩

/-- Settles O58: the list with the holds, and the queue with the item in hand, are each kept by every row. -/
theorem everyStepKeepsListAndQueue : Obligations.EveryStepKeepsListAndQueue :=
  ⟨fun _ _ hs h => step_keeps captureOk_kept h hs, fun _ _ hs h => step_keeps queueOk_kept h hs⟩

end Sys2Proof.Machine
end

section
/-! PROOFS. Every step keeps the one access of the render stage's item (R39, R43, R46, R47). -/

namespace Sys2Proof.Machine

variable {s t : State}

/-! ### Granted accesses -/

theorem MemoryPort.renderGranted_iff {p : MemoryPort} {a : RenderAccess} :
    p.renderGranted = some a ↔ p.current = some (.render a true) := by
  unfold MemoryPort.renderGranted
  split
  · rename_i h; simp [h]
  · rename_i hn
    exact ⟨(fun e => nomatch e), fun e => absurd e (hn a)⟩

theorem MemoryPort.renderGranted_of_current {p q : MemoryPort} (h : q.current = p.current) :
    q.renderGranted = p.renderGranted := by
  unfold MemoryPort.renderGranted
  rw [h]

theorem MemoryPort.renderGranted_of_ne {p : MemoryPort} (h : ∀ a, p.current ≠ some (.render a true)) :
    p.renderGranted = none :=
  Option.eq_none_iff_forall_ne_some.2 fun a e => h a (MemoryPort.renderGranted_iff.1 e)

theorem MemoryPort.dropRender_renderGranted (p : MemoryPort) : p.dropRender.renderGranted = none := by
  refine MemoryPort.renderGranted_of_ne fun a e => ?_
  by_cases h : ∃ b o, p.current = some (.render b o)
  · obtain ⟨b, o, h⟩ := h
    rw [p.dropRender_granted h] at e
    cases e
  · rw [p.dropRender_other fun b o h' => h ⟨b, o, h'⟩] at e
    exact h ⟨a, true, e⟩

theorem MemoryPort.copyGranted_iff {p : MemoryPort} {a : CopyAccess} :
    p.copyGranted = some a ↔ p.current = some (.copy a true) := by
  unfold MemoryPort.copyGranted
  split
  · rename_i h; simp [h]
  · rename_i hn
    exact ⟨(fun e => nomatch e), fun e => absurd e (hn a)⟩

theorem MemoryPort.copyGranted_of_ne {p : MemoryPort} (h : ∀ a, p.current ≠ some (.copy a true)) :
    p.copyGranted = none :=
  Option.eq_none_iff_forall_ne_some.2 fun a e => h a (MemoryPort.copyGranted_iff.1 e)

/-- R112: a decision moves the render stage's request from the waiting set to the grant, or leaves it waiting. -/
theorem rowGrantDecision_render (h : rowGrantDecision s = some t) : s.port.renderGranted = none ∧
    ((t.port.renderWaiting = s.port.renderWaiting ∧ t.port.renderGranted = none) ∨
      (t.port.renderWaiting = none ∧ t.port.renderGranted = s.port.renderWaiting)) := by
  obtain ⟨hc, q, rfl, ⟨-, -, rfl⟩ | ⟨g, hg, hq⟩⟩ := rowGrantDecision_cases h
  · exact ⟨MemoryPort.renderGranted_of_ne (by simp [hc]), .inl ⟨rfl, MemoryPort.renderGranted_of_ne (by simp [hc])⟩⟩
  · have hw : q.renderWaiting = g.renderWaiting ∧ q.current = g.current := by
      rcases hq with rfl | rfl <;> exact ⟨rfl, rfl⟩
    refine ⟨MemoryPort.renderGranted_of_ne (by simp [hc]), ?_⟩
    dsimp only
    rw [hw.1, MemoryPort.renderGranted_of_current hw.2]
    rcases (s.port.mem_candidates g).1 hg with ⟨-, rfl⟩ | ⟨-, rfl⟩ | ⟨r, -, rfl⟩ | ⟨a, ha, rfl⟩ | ⟨a, -, rfl⟩
    · exact .inl ⟨rfl, rfl⟩
    · exact .inl ⟨rfl, rfl⟩
    · cases r <;> exact .inl ⟨rfl, rfl⟩
    · exact .inr ⟨rfl, ha.symm⟩
    · exact .inl ⟨rfl, rfl⟩

/-- R112: a decision moves the copy engine's request from the waiting set to the grant, or leaves it waiting. -/
theorem rowGrantDecision_copy (h : rowGrantDecision s = some t) : s.port.copyGranted = none ∧
    ((t.port.copyWaiting = s.port.copyWaiting ∧ t.port.copyGranted = none) ∨
      (s.port.copyWaiting ≠ none ∧ t.port.copyWaiting = none ∧ t.port.copyGranted = s.port.copyWaiting)) := by
  obtain ⟨hc, q, rfl, ⟨-, -, rfl⟩ | ⟨g, hg, hq⟩⟩ := rowGrantDecision_cases h
  · exact ⟨MemoryPort.copyGranted_of_ne (by simp [hc]), .inl ⟨rfl, MemoryPort.copyGranted_of_ne (by simp [hc])⟩⟩
  · have hw : q.copyWaiting = g.copyWaiting ∧ q.copyGranted = g.copyGranted := by
      rcases hq with rfl | rfl <;> exact ⟨rfl, rfl⟩
    refine ⟨MemoryPort.copyGranted_of_ne (by simp [hc]), ?_⟩
    dsimp only
    rw [hw.1, hw.2]
    rcases (s.port.mem_candidates g).1 hg with ⟨-, rfl⟩ | ⟨-, rfl⟩ | ⟨r, -, rfl⟩ | ⟨a, -, rfl⟩ | ⟨a, ha, rfl⟩
    · exact .inl ⟨rfl, rfl⟩
    · exact .inl ⟨rfl, rfl⟩
    · cases r <;> exact .inl ⟨rfl, rfl⟩
    · exact .inl ⟨rfl, rfl⟩
    · exact .inr ⟨by simp [ha], rfl, ha.symm⟩

/-! ### The item's access -/

/-- The access the render stage waits for: its item's, none without an item. -/
def State.wanted (s : State) : Option RenderAccess := s.render.item.bind fun i => i.access? s.standing

/-- The wanted access is waiting or granted, and no other is (R43, R112). -/
def State.OneAccess (s : State) : Prop :=
  (s.port.renderWaiting = s.wanted ∧ s.port.renderGranted = none) ∨
    (s.port.renderWaiting = none ∧ s.port.renderGranted = s.wanted)

/-- The panel state in which an item is worked on (R40, R47). -/
def RenderItem.home : RenderItem → PanelState
  | .capture _ _ _ _ | .resweep _ _ _ _ => .lit
  | .wipe _ => .clearing

theorem State.renderOk_iff : s.RenderOk ↔ (s.por = false → s.OneAccess) ∧
    (∀ i, s.render.item = some i → s.seq.panel = i.home) ∧
    (∀ a, s.render.item = some (.wipe a) → a = s.wipeAddress ∧ s.render.wipePosition < 16384) ∧
    (s.seq.panel = .clearing → s.seq.wipeDone = true → s.render.wipePosition = 16384) ∧
    s.render.captureCount ≤ 8 ∧ s.render.wipePosition ≤ 16384 := by
  constructor
  · intro h
    refine ⟨fun hp => ?_, fun i hi => (h.state i hi).trans (by cases i <;> rfl), h.wipe, h.done, h.count, h.position⟩
    unfold State.OneAccess State.wanted
    cases hi : s.render.item with
    | none => exact .inl (h.idle hp hi)
    | some i => exact h.access hp i hi
  · rintro ⟨ha, hst, hw, hd, hc, hpos⟩
    have hone : s.por = false → (s.port.renderWaiting = s.wanted ∧ s.port.renderGranted = none) ∨
        (s.port.renderWaiting = none ∧ s.port.renderGranted = s.wanted) := ha
    refine ⟨fun hp hi => ?_, fun hp i hi => ?_, fun i hi => (hst i hi).trans (by cases i <;> rfl), hw, hd, hc, hpos⟩
    · have := hone hp
      simp only [State.wanted, hi, Option.bind_none] at this
      exact this.elim id id
    · have := hone hp
      simpa only [State.wanted, hi, Option.bind_some] using this

theorem State.RenderOk.oneAccess (h : s.RenderOk) (hp : s.por = false) : s.OneAccess := (State.renderOk_iff.1 h).1 hp

theorem State.RenderOk.home (h : s.RenderOk) {i : RenderItem} (hi : s.render.item = some i) : s.seq.panel = i.home :=
  (State.renderOk_iff.1 h).2.1 i hi

/-- A stage without an item has no access waiting or granted. -/
theorem State.RenderOk.free (h : s.RenderOk) (hp : s.por = false) (hi : s.render.item = none) :
    s.port.renderWaiting = none ∧ s.port.renderGranted = none := h.idle hp hi

/-- A granted access that has not been given up is the item's, and no other waits. -/
theorem State.RenderOk.owned (h : s.RenderOk) (hp : s.por = false) {a : RenderAccess}
    (hc : s.port.current = some (.render a true)) : s.port.renderWaiting = none ∧
      ∃ i, s.render.item = some i ∧ i.access? s.standing = some a := by
  have hg := MemoryPort.renderGranted_iff.2 hc
  rcases h.oneAccess hp with ⟨-, hn⟩ | ⟨hw, hn⟩
  · rw [hg] at hn; cases hn
  · rw [hg] at hn
    obtain ⟨i, hi, ha⟩ := Option.bind_eq_some_iff.1 hn.symm
    exact ⟨hw, i, hi, ha⟩

/-- No item is in hand in a panel state that is neither LIT nor CLEARING. -/
theorem State.RenderOk.no_item (h : s.RenderOk) (hl : s.seq.panel ≠ .lit) (hc : s.seq.panel ≠ .clearing) :
    s.render.item = none := by
  cases hi : s.render.item with
  | none => rfl
  | some i =>
    have := h.home hi
    cases i <;> contradiction

/-- The invariant moves with the item, its access, the panel state and the wipe. -/
theorem State.RenderOk.of_same (h : s.RenderOk) (hp : t.por = s.por) (hst : t.standing = s.standing)
    (hi : t.render.item = s.render.item) (hpos : t.render.wipePosition = s.render.wipePosition)
    (hcount : t.render.captureCount ≤ 8) (hpanel : t.seq.panel = s.seq.panel) (hdone : t.seq.wipeDone = s.seq.wipeDone)
    (hw : t.port.renderWaiting = s.port.renderWaiting) (hg : t.port.renderGranted = s.port.renderGranted) :
    t.RenderOk := by
  obtain ⟨ha, hh, hwipe, hd, -, hle⟩ := State.renderOk_iff.1 h
  have hadr : t.wipeAddress = s.wipeAddress := by rw [State.wipeAddress, State.wipeAddress, hst, hpos]
  refine State.renderOk_iff.2 ⟨fun hp' => ?_, ?_, ?_, ?_, hcount, hpos ▸ hle⟩
  · unfold State.OneAccess State.wanted
    rw [hw, hg, hi, hst]
    exact ha (hp ▸ hp')
  · rw [hi, hpanel]; exact hh
  · rw [hi, hadr, hpos]; exact hwipe
  · rw [hpanel, hdone, hpos]; exact hd

theorem State.KeepsPicture.renderGranted (k : s.KeepsPicture t) : t.port.renderGranted = s.port.renderGranted := by
  apply Option.ext
  intro a
  rw [MemoryPort.renderGranted_iff, MemoryPort.renderGranted_iff]
  exact k.current a true

theorem State.KeepsPicture.renderOk (k : s.KeepsPicture t) (h : s.RenderOk) : t.RenderOk :=
  h.of_same k.por k.standing (by rw [k.render]) (by rw [k.render]) (by rw [k.render]; exact h.count) (by rw [k.seq])
    (by rw [k.seq]) k.waiting k.renderGranted

/-- With no item there is nothing to wait for. -/
theorem State.RenderOk.of_idle (hi : t.render.item = none) (hw : t.port.renderWaiting = none)
    (hg : t.port.renderGranted = none)
    (hdone : t.seq.panel = .clearing → t.seq.wipeDone = true → t.render.wipePosition = 16384)
    (hcount : t.render.captureCount ≤ 8) (hle : t.render.wipePosition ≤ 16384) : t.RenderOk :=
  State.renderOk_iff.2 ⟨fun _ => .inl ⟨by rw [hw, State.wanted, hi]; rfl, hg⟩, (fun i h => by rw [hi] at h; cases h),
    (fun a h => by rw [hi] at h; cases h), hdone, hcount, hle⟩

theorem State.RenderOk.of_emptied (e : s.WorkEmptied t) (hc : t.port.current = s.port.dropRender.current)
    (hdone : t.seq.panel = .clearing → t.seq.wipeDone = true → t.render.wipePosition = 16384)
    (hle : t.render.wipePosition ≤ 16384) : t.RenderOk :=
  .of_idle e.item.1 e.withdrawn ((MemoryPort.renderGranted_of_current hc).trans s.port.dropRender_renderGranted) hdone
    (by rw [e.item.2]; exact Nat.zero_le _) hle

/-- In LIT an item of cell words stands with its access asked for. -/
theorem State.RenderOk.of_item (h : s.RenderOk) (hl : s.seq.panel = .lit) (hpanel : t.seq.panel = s.seq.panel)
    (hpos : t.render.wipePosition = s.render.wipePosition) (hcount : t.render.captureCount ≤ 8)
    (hi : ∀ i, t.render.item = some i → i.home = .lit) (hw : t.port.renderWaiting = t.wanted)
    (hg : t.port.renderGranted = none) : t.RenderOk := by
  refine State.renderOk_iff.2 ⟨fun _ => .inl ⟨hw, hg⟩, fun i h' => ?_, (fun a h' => nomatch hi _ h'), fun hc => ?_, hcount,
    hpos ▸ h.position⟩
  · rw [hpanel, hl, hi i h']
  · rw [hpanel, hl] at hc; cases hc

/-! ### Beginning and going on -/

theorem State.beginCapture_asks (hw : s.port.renderWaiting = none) (r : CaptureRecord) (c : CellWord)
    (rest : List CellWord) : (s.beginCapture r c rest).port.renderWaiting = (s.beginCapture r c rest).wanted ∧
      ∀ i, (s.beginCapture r c rest).render.item = some i → i.home = .lit := by
  rcases Nat.lt_or_ge 240 s.queue.length with hq | hq
  · rw [State.beginCapture_of_full hq]
    exact ⟨hw, fun i hi => by cases hi; rfl⟩
  · rw [State.beginCapture_of_room hq]
    exact ⟨rfl, fun i hi => by cases hi; rfl⟩

theorem State.nextCaptureWord_asks (hw : s.port.renderWaiting = none) (r : CaptureRecord) (words : List CellWord) :
    (s.nextCaptureWord r words).port.renderWaiting = (s.nextCaptureWord r words).wanted ∧
      ∀ i, (s.nextCaptureWord r words).render.item = some i → i.home = .lit := by
  cases words with
  | nil => exact ⟨hw, fun i hi => nomatch hi⟩
  | cons c rest => exact State.beginCapture_asks hw r c rest

theorem State.resweepRead_asks (s : State) (c : CellWord) (got : List (Addr × Word)) (toRead : List Addr) :
    (s.resweepRead c got toRead).port.renderWaiting = (s.resweepRead c got toRead).wanted ∧
      ∀ i, (s.resweepRead c got toRead).render.item = some i → i.home = .lit := by
  cases toRead <;> exact ⟨rfl, fun i hi => by cases hi; rfl⟩

theorem State.beginResweep_asks (hw : s.port.renderWaiting = none) (c : CellWord) :
    (s.beginResweep c).port.renderWaiting = (s.beginResweep c).wanted ∧
      ∀ i, (s.beginResweep c).render.item = some i → i.home = .lit := by
  rcases Nat.lt_or_ge 240 s.queue.length with hq | hq
  · rw [State.beginResweep_of_full hq]
    exact ⟨hw, fun i hi => by cases hi; rfl⟩
  · rw [State.beginResweep_of_room hq]
    exact State.resweepRead_asks s c [] _

theorem State.cellWordDone_asks (hw : s.port.renderWaiting = none) (i : RenderItem) :
    (s.cellWordDone i).port.renderWaiting = (s.cellWordDone i).wanted ∧
      ∀ j, (s.cellWordDone i).render.item = some j → j.home = .lit := by
  cases i with
  | capture r c rest stage => exact State.nextCaptureWord_asks hw r rest
  | resweep c got toRead stage => exact ⟨hw, fun i hi => nomatch hi⟩
  | wipe a => exact ⟨hw, fun i hi => nomatch hi⟩

/-- An item that reads its cell word waits for that read, in LIT. -/
theorem RenderItem.access?_reading {p : ParamSet} {i : RenderItem} {c : CellWord} (hr : i.readingCell = true)
    (hc : i.cell? = some c) : i.access? p = some (.readCell (p.cellAddress c)) ∧ i.home = .lit := by
  cases i with
  | capture r d rest stage => cases hc; cases stage <;> cases hr; exact ⟨rfl, rfl⟩
  | resweep d got toRead stage => cases hc; cases stage <;> cases hr; exact ⟨rfl, rfl⟩
  | wipe a => cases hc

/-- An item that has a word to write back waits for that write. -/
theorem RenderItem.access?_writingBack {p : ParamSet} {i : RenderItem} {c : CellWord} (hc : i.cell? = some c)
    (w : Word) : (i.writingBack w).access? p = some (.writeBack (p.cellAddress c) w) := by
  cases i with
  | capture r d rest stage => cases hc; rfl
  | resweep d got toRead stage => cases hc; rfl
  | wipe a => cases hc

/-- Only a WIPE item waits for a wipe write. -/
theorem RenderItem.eq_wipe_of_access? {p : ParamSet} {i : RenderItem} {a : Addr}
    (h : i.access? p = some (.wipe a)) : i = .wipe a := by
  cases i with
  | capture r c rest stage => cases stage <;> cases h
  | resweep c got toRead stage =>
    cases stage with
    | pictureRead => cases toRead <;> cases h
    | freeWait | cellRead | writeBack w => cases h
  | wipe b => cases h; rfl

/-- Only an item of cell words waits for a write-back: the one at its cell word. -/
theorem RenderItem.of_access?_writeBack {p : ParamSet} {i : RenderItem} {a : Addr} {w : Word}
    (h : i.access? p = some (.writeBack a w)) : ∃ c, i.cell? = some c ∧ a = p.cellAddress c ∧ i = i.writingBack w ∧
      i.home = .lit := by
  cases i with
  | capture r c rest stage => cases stage <;> cases h; exact ⟨c, rfl, rfl, rfl, rfl⟩
  | resweep c got toRead stage =>
    cases stage with
    | pictureRead => cases toRead <;> cases h
    | writeBack v => cases h; exact ⟨c, rfl, rfl, rfl, rfl⟩
    | freeWait | cellRead => cases h
  | wipe b => cases h

/-! ### The wipe and the completions of CLEARING (R47, R99) -/

/-- A wipe write that is its item's own finds CLEARING, with the wipe at its position and not done. -/
theorem State.RenderOk.wiping (h : s.RenderOk) (hp : s.por = false) {a : Addr}
    (hc : s.port.current = some (.render (.wipe a) true)) : s.port.renderWaiting = none ∧ s.seq.panel = .clearing ∧
      a = s.wipeAddress ∧ s.render.wipePosition < 16384 ∧ s.seq.wipeDone = false := by
  obtain ⟨hw, i, hi, ha⟩ := h.owned hp hc
  cases RenderItem.eq_wipe_of_access? ha
  obtain ⟨hadr, hlt⟩ := h.wipe a hi
  have hpanel : s.seq.panel = .clearing := h.home hi
  refine ⟨hw, hpanel, hadr, hlt, ?_⟩
  by_contra hn
  have := h.done hpanel (by simpa using hn)
  omega

/-- In CLEARING with the wipe done no item is in hand. -/
theorem State.RenderOk.no_item_of_wipeDone (h : s.RenderOk) (hp : s.seq.panel = .clearing)
    (hd : s.seq.wipeDone = true) : s.render.item = none := by
  cases hi : s.render.item with
  | none => rfl
  | some i =>
    have hh := h.home hi
    rw [hp] at hh
    cases i with
    | capture r c rest stage => cases hh
    | resweep c got toRead stage => cases hh
    | wipe a =>
      have hlt := (h.wipe a hi).2
      have := h.done hp hd
      omega

/-- The entry to LIT of a stage without an item. -/
theorem State.RenderOk.enterLit (h : s.RenderOk) (hp : s.por = false) (hi : s.render.item = none) :
    s.enterLit.RenderOk := by
  obtain ⟨hw, hg⟩ := h.free hp hi
  refine .of_idle (by simpa using hi) (by simpa using hw) ?_ (fun hc => nomatch hc) (by simpa using h.count)
    (by simpa using h.position)
  rw [MemoryPort.renderGranted_of_current (p := s.port) (by simp)]
  exact hg

theorem State.RenderOk.noteErases (h : s.RenderOk) (hp : s.por = false) : s.noteErases.RenderOk := by
  have hd : State.RenderOk { s with seq := { s.seq with erasesDone := true } } :=
    h.of_same rfl rfl rfl rfl h.count rfl rfl rfl rfl
  obtain ⟨-, e⟩ | ⟨-, -, e⟩ | ⟨hc, hw, e⟩ := s.noteErases_cases <;> rw [e]
  · exact h
  · exact hd
  · exact hd.enterLit hp (h.no_item_of_wipeDone hc hw)

/-- After the last wipe write the wipe is done, and LIT is entered when the erases are done too. -/
theorem State.RenderOk.noteWipe (h : s.RenderOk) (hp : s.por = false) (hi : s.render.item = none)
    (hpos : s.render.wipePosition = 16384) : s.noteWipe.RenderOk := by
  have hd : State.RenderOk { s with seq := { s.seq with wipeDone := true } } := by
    obtain ⟨hw, hg⟩ := h.free hp hi
    exact .of_idle hi hw hg (fun _ _ => hpos) h.count h.position
  obtain ⟨-, e⟩ | ⟨-, -, e⟩ | ⟨-, -, e⟩ := s.noteWipe_cases <;> rw [e]
  · exact h
  · exact hd
  · exact hd.enterLit hp hi

theorem State.RenderOk.slot (h : s.RenderOk) (hp : s.por = false) : s.openCycle.slot.RenderOk := by
  have ho : s.openCycle.RenderOk :=
    h.of_same (by simp) (by simp) (by simp) (by simp) (by simpa using h.count) (by simp) (by simp) (by simp) (by simp)
  obtain e | ⟨-, -, e⟩ | ⟨head, rest, -, -, e⟩ := s.openCycle.slot_cases <;> rw [e]
  · exact ho
  · have he : s.openCycle.erasing.RenderOk := ho.of_same rfl rfl rfl rfl ho.count rfl rfl rfl rfl
    obtain ⟨-, e⟩ | ⟨-, e⟩ := s.openCycle.globalErase_cases <;> rw [e]
    · exact he
    · exact he.noteErases hp
  · exact ho.of_same (by simp) (by simp) (by simp) (by simp) (by simpa using h.count) (by simp) (by simp) (by simp)
      (by simp)

/-! ### The rows -/

theorem State.RenderOk.enterCharging (h : s.RenderOk) (hp : s.por = false) (hl : s.seq.panel ≠ .lit)
    (hc : s.seq.panel ≠ .clearing) : s.enterCharging.RenderOk := by
  have hi := h.no_item hl hc
  obtain ⟨hw, hg⟩ := h.free hp hi
  refine .of_idle (by simpa using hi) (by simpa using hw) ?_ (fun hc => nomatch hc) (by simpa using h.count)
    (by simpa using h.position)
  rw [MemoryPort.renderGranted_of_current (p := s.port) (by simp)]
  exact hg

theorem State.softRestart_renderOk (s : State) : s.softRestart.RenderOk :=
  .of_emptied s.softRestart_restarts.entry.emptied rfl (fun _ hd => nomatch hd) (Nat.zero_le _)

theorem State.enterClearing_renderOk (s : State) : s.enterClearing.RenderOk :=
  .of_emptied s.enterClearing_enters.emptied rfl (fun _ hd => nomatch hd) (Nat.zero_le _)

theorem State.enterDark_renderOk (s : State) (h : s.render.wipePosition ≤ 16384) : s.enterDark.RenderOk :=
  .of_emptied s.enterDark_emptied rfl (fun hc => nomatch hc) h

theorem State.Faults.renderOk (h : s.Faults t) (hs : s.RenderOk) : t.RenderOk := by
  obtain ⟨-, q, k, -, rfl⟩ := h
  refine .of_emptied (State.recover_emptied _) (State.recover_current _) (fun hc => ?_) (by simpa using hs.position)
  rcases State.recover_panel (({ s with seq := q } : State).enterFault k) with e | e <;> rw [e] at hc <;> cases hc

/-- A command that keeps the item and its access while POR is negated, with its take and its record. -/
theorem commandRow_renderOk {isMine : Byte → Bool} {act : State → State × CommandOutcome}
    (hact : ∀ {u : State}, u.por = false → u.RenderOk → (act u).1.RenderOk) (hp : s.por = false)
    (hpor : ∀ u : State, (act u).1.por = u.por) (h : commandRow isMine act s = some t) (hs : s.RenderOk) :
    t.RenderOk :=
  (commandRow_keeps (P := fun u => u.por = false ∧ u.RenderOk)
    (fun k o rest => ⟨by simpa using k.1, (State.takeHandOver_keepsPicture _ o rest).renderOk k.2⟩)
    (fun k code o => ⟨by simpa using k.1, (State.recordCommand_keepsPicture _ code o).renderOk k.2⟩)
    (fun k => ⟨(hpor _).trans k.1, hact k.1 k.2⟩) h ⟨hp, hs⟩).2

theorem PictureRow.renderOk {row : State → Option State} (hr : PictureRow row) (hp : s.por = false) (hs : s.RenderOk)
    (h : row s = some t) : t.RenderOk := by
  cases hr
  case commit =>
    refine commandRow_renderOk (fun {u} _ k => ?_) hp (fun u => ?_) h hs
    · obtain e | e | ⟨-, e⟩ := u.doCommit_cases <;> rw [e] <;> exact k.of_same rfl rfl rfl rfl k.count rfl rfl rfl rfl
    · obtain e | e | ⟨-, e⟩ := u.doCommit_cases <;> rw [e]
  case restartPanel =>
    refine commandRow_renderOk (fun {u} hp k => ?_) hp (fun u => ?_) h hs
    · obtain e | ⟨hd, e⟩ | ⟨-, e⟩ := u.doRestart_cases <;> rw [e]
      · exact k
      · exact k.enterCharging hp (by rw [hd]; decide) (by rw [hd]; decide)
      · exact u.softRestart_renderOk
    · obtain e | ⟨-, e⟩ | ⟨-, e⟩ := u.doRestart_cases <;> rw [e] <;> simp
  case stopPanel =>
    refine commandRow_renderOk (fun {u} _ k => ?_) hp (fun u => ?_) h hs
    · obtain e | e := u.doStop_cases <;> rw [e]
      · exact k
      · exact u.enterDark_renderOk k.position
    · obtain e | e := u.doStop_cases <;> rw [e]; simp
  case clearFaults =>
    refine commandRow_renderOk (fun {u} _ k => ?_) hp (fun u => ?_) h hs
    · obtain ⟨f, ⟨-, e⟩ | e⟩ := u.doClearFaults_cases <;> rw [e] <;>
        exact k.of_same rfl rfl rfl rfl k.count rfl rfl rfl rfl
    · obtain ⟨f, ⟨-, e⟩ | e⟩ := u.doClearFaults_cases <;> rw [e]
  case commitApply =>
    obtain ⟨new, hi, -, ⟨-, -, rfl⟩ | ⟨-, rfl⟩⟩ := rowCommitApply_cases h
    · exact State.softRestart_renderOk _
    · obtain ⟨hw, hg⟩ := hs.free hp hi
      exact .of_idle hi hw hg hs.done hs.count hs.position
  case captureItem =>
    obtain ⟨r, rest, -, hl, hch, rfl⟩ := rowCaptureItem_cases h
    obtain ⟨hi, -, -⟩ := State.canChoose_iff.1 hch
    obtain ⟨hw, hg⟩ := hs.free hp hi
    obtain ⟨ha, hh⟩ := State.nextCaptureWord_asks (s := s.captureTaken rest) hw r (s.standing.recordWords r)
    refine hs.of_item hl (by simp [State.captureTaken]) (by simp [State.captureTaken]) ?_ hh ha ?_
    · simp [State.captureTaken]
    · rw [MemoryPort.renderGranted_of_current (p := s.port) (by simp [State.captureTaken])]
      exact hg
  case resweepItem =>
    obtain ⟨c, -, hl, hch, rfl⟩ := rowResweepItem_cases h
    obtain ⟨hi, -, -⟩ := State.canChoose_iff.1 hch
    obtain ⟨hw, hg⟩ := hs.free hp hi
    obtain ⟨ha, hh⟩ := State.beginResweep_asks (s := s.resweepTaken c) hw c
    refine hs.of_item hl (by simp [State.resweepTaken]) (by simp [State.resweepTaken]) ?_ hh ha ?_
    · simp [State.resweepTaken]
    · rw [MemoryPort.renderGranted_of_current (p := s.port) (by simp [State.resweepTaken])]
      exact hg
  case wipeItem =>
    obtain ⟨hc, hch, hlt, rfl⟩ := rowWipeItem_cases h
    obtain ⟨hi, -, -⟩ := State.canChoose_iff.1 hch
    obtain ⟨-, hg⟩ := hs.free hp hi
    refine State.renderOk_iff.2 ⟨fun _ => .inl ⟨rfl, hg⟩, fun i hi => ?_, fun a ha => ?_, hs.done, hs.count, hs.position⟩
    · cases hi; exact hc
    · cases ha; exact ⟨rfl, hlt⟩
  case freeEntryWaitEnd =>
    obtain ⟨-, ⟨r, c, rest, hi, rfl⟩ | ⟨c, got, toRead, hi, rfl⟩⟩ := rowFreeEntryWaitEnd_cases h
    · obtain ⟨hw, hg⟩ : s.port.renderWaiting = none ∧ s.port.renderGranted = none := (hs.access hp _ hi).elim id id
      obtain ⟨ha, hh⟩ := State.beginCapture_asks hw r c rest
      refine hs.of_item (hs.home hi) (by simp) (by simp) (by simpa using hs.count) hh ha ?_
      rw [MemoryPort.renderGranted_of_current (p := s.port) (by simp)]
      exact hg
    · obtain ⟨-, hg⟩ : s.port.renderWaiting = none ∧ s.port.renderGranted = none := (hs.access hp _ hi).elim id id
      obtain ⟨ha, hh⟩ := s.resweepRead_asks c got toRead
      refine hs.of_item (hs.home hi) (by simp) (by simp) (by simpa using hs.count) hh ha ?_
      rw [MemoryPort.renderGranted_of_current (p := s.port) (by simp)]
      exact hg
  case pictureReadDone =>
    obtain ⟨a, ⟨hc, rfl⟩ | ⟨-, c, got, b, more, hi, rfl⟩⟩ := rowPictureReadDone_cases h
    · exact hs.of_same rfl rfl rfl rfl hs.count rfl rfl rfl (MemoryPort.renderGranted_of_ne (by simp [hc])).symm
    · obtain ⟨ha, hh⟩ := s.endGrant.resweepRead_asks c (got ++ [(a, s.readWord a)]) more
      exact hs.of_item (hs.home hi) (by simp) (by simp) (by simpa using hs.count) hh ha
        (MemoryPort.renderGranted_of_ne (by simp))
  case cellWordReadDone =>
    obtain ⟨a, ⟨hc, rfl⟩ | ⟨hc, i, c, hi, hr, hcell, rfl⟩⟩ := rowCellWordReadDone_cases h
    · exact hs.of_same rfl rfl rfl rfl hs.count rfl rfl rfl (MemoryPort.renderGranted_of_ne (by simp [hc])).symm
    · obtain ⟨hw, j, hj, haj⟩ := hs.owned hp hc
      cases hi.symm.trans hj
      obtain ⟨hread, hhome⟩ := RenderItem.access?_reading (p := s.standing) hr hcell
      cases hread.symm.trans haj
      have hl : s.seq.panel = .lit := (hs.home hi).trans hhome
      refine hs.of_item hl (by simp) (by simp) (by simpa using hs.count) ?_ ?_ (MemoryPort.renderGranted_of_ne (by simp))
      all_goals
        by_cases hcmp : (compareTargets c.line (i.targets s.standing) s.queue
          (s.readWord (s.standing.cellAddress c))).2 = s.readWord (s.standing.cellAddress c)
      · rw [State.compareCell_unchanged (s := s.endGrant) hcmp]
        exact (State.cellWordDone_asks (s := { s.endGrant with queue := _ }) hw i).2
      · rw [State.compareCell_changed (s := s.endGrant) hcmp]
        intro j hj
        cases hj
        cases i with
        | capture r d rest stage => rfl
        | resweep d got toRead stage => rfl
        | wipe a => cases hcell
      · rw [State.compareCell_unchanged (s := s.endGrant) hcmp]
        exact (State.cellWordDone_asks (s := { s.endGrant with queue := _ }) hw i).1
      · rw [State.compareCell_changed (s := s.endGrant) hcmp]
        exact (RenderItem.access?_writingBack hcell _).symm
  case writeBackDone =>
    obtain ⟨a, w, ⟨hc, rfl⟩ | ⟨hc, i, hi, rfl⟩⟩ := rowWriteBackDone_cases h
    · exact hs.of_same rfl rfl rfl rfl hs.count rfl rfl rfl (MemoryPort.renderGranted_of_ne (by simp [hc])).symm
    · obtain ⟨hw, j, hj, haj⟩ := hs.owned hp hc
      cases hi.symm.trans hj
      obtain ⟨c, -, -, -, hhome⟩ := RenderItem.of_access?_writeBack haj
      obtain ⟨ha, hh⟩ := State.cellWordDone_asks (s := s.endGrant.writeWord a .both w) hw i
      exact hs.of_item ((hs.home hi).trans hhome) (by simp [State.writeWord]) (by simp [State.writeWord])
        (by simpa [State.writeWord] using hs.count) hh ha (MemoryPort.renderGranted_of_ne (by simp [State.writeWord]))
  case wipeWriteDone =>
    obtain ⟨a, ⟨hc, rfl⟩ | ⟨hc, hpos⟩⟩ := rowWipeWriteDone_cases h
    · exact hs.of_same rfl rfl rfl rfl hs.count rfl rfl rfl (MemoryPort.renderGranted_of_ne (by simp [hc])).symm
    · obtain ⟨hw, -, -, hlt, hd⟩ := hs.wiping hp hc
      have hdone (hn : s.seq.wipeDone = true) : s.render.wipePosition + 1 = 16384 := by rw [hd] at hn; cases hn
      have hwritten : (s.wipeWritten a).RenderOk := .of_idle rfl hw rfl (fun _ => hdone) hs.count hlt
      obtain ⟨-, rfl⟩ | ⟨hle, rfl⟩ := hpos
      · exact hwritten
      · exact hwritten.noteWipe hp rfl (by simp only [State.wipeWritten]; omega)
  case sustainCycleStart =>
    obtain ⟨-, rfl⟩ := rowSustainCycleStart_cases h
    exact hs.slot hp
  case hvokSeen =>
    obtain ⟨-, rfl⟩ := rowHvokSeen_cases h
    exact s.enterClearing_renderOk
  case hvokLost => exact (rowHvokLost_cases h).renderOk hs
  case hvocSeen => exact (rowHvocSeen_cases h).renderOk hs
  case groupStrike => exact (rowGroupStrike_cases h).renderOk hs
  case chargeTimeout => exact (rowChargeTimeout_cases h).renderOk hs
  case restEnd =>
    obtain ⟨hc, ⟨-, rfl⟩ | ⟨-, rfl⟩⟩ := rowRestEnd_cases h
    · exact .of_emptied s.barNoGroups_emptied rfl (fun hc => nomatch hc) hs.position
    · exact hs.enterCharging hp (by rw [hc]; decide) (by rw [hc]; decide)
  case litDurationExpiry =>
    obtain ⟨-, rfl⟩ := rowLitDurationExpiry_cases h
    exact hs.of_same rfl rfl rfl rfl hs.count rfl rfl rfl rfl
  case grantDecision =>
    obtain ⟨-, q, rfl, -⟩ := rowGrantDecision_cases h
    obtain ⟨hn, hmove⟩ := rowGrantDecision_render h
    obtain ⟨-, hh, hwipe, hd, hcount, hle⟩ := State.renderOk_iff.1 hs
    refine State.renderOk_iff.2 ⟨fun _ => ?_, hh, hwipe, hd, hcount, hle⟩
    have hwait : s.port.renderWaiting = s.wanted := by
      rcases hs.oneAccess hp with ⟨hw, -⟩ | ⟨hw, hg⟩
      · exact hw
      · rw [hw, ← hg, hn]
    rcases hmove with ⟨hw, hg⟩ | ⟨hw, hg⟩
    · exact .inl ⟨hw.trans hwait, hg⟩
    · exact .inr ⟨hw, hg.trans hwait⟩

theorem PinRow.renderOk {row : State → Option State} (hr : PinRow row) (hs : s.RenderOk) (h : row s = some t) :
    t.RenderOk := by
  cases hr
  case porAssert =>
    obtain ⟨-, rfl⟩ := rowPorAssert_cases h
    obtain ⟨-, hh, hwipe, hd, hcount, hle⟩ := State.renderOk_iff.1 hs
    exact State.renderOk_iff.2 ⟨(fun hp => nomatch hp), hh, hwipe, hd, hcount, hle⟩
  case porEnd =>
    obtain ⟨-, rfl⟩ := rowPorEnd_cases h
    exact .of_idle rfl rfl rfl (fun hc => nomatch hc) (Nat.zero_le _) (Nat.zero_le _)
  case sysclr =>
    obtain ⟨-, rfl⟩ | ⟨-, rfl⟩ := rowSysclr_cases h
    · exact hs.of_same rfl rfl rfl rfl hs.count rfl rfl rfl rfl
    · have hd := s.abortCopy.enterDark_renderOk (by simpa using hs.position)
      exact hd.of_same rfl rfl rfl rfl hd.count rfl rfl rfl rfl
  case sysclrNegate => exact (rowSysclrNegate_keepsPicture h).renderOk hs
  case busRead => exact (rowBusRead_keepsPicture h).renderOk hs
  case busWrite => exact (rowBusWrite_keepsPicture h).renderOk hs
  case faultInputChange =>
    obtain ⟨_, _, _, _, _, _, _, _, rfl⟩ := rowFaultInputChange_cases h
    exact hs.of_same rfl rfl rfl rfl hs.count rfl rfl rfl rfl

/-- R39, R43, R46, R47: every row keeps the item in hand with its one access. -/
theorem renderOk_kept : KeptByRows State.RenderOk where
  pin hr hs h := hr.renderOk hs h
  inner hr hp hs h := (hr.picture h).elim (fun k => k.renderOk hp hs h) fun k => k.renderOk hs
  after {s} hs := hs.of_same (by simp) (by simp) (by simp) (by simp) (s.afterEvent_captureCount_le.trans hs.count)
    (by simp) (by simp) (by simp) (MemoryPort.renderGranted_of_current (by simp))
  pending hs := hs.of_same rfl rfl rfl rfl hs.count rfl rfl rfl rfl

end Sys2Proof.Machine
end

section
/-! PROOFS. Every step keeps the copy in hand with its one access (R124, R126, R132, R133). -/

namespace Sys2Proof.Machine

variable {s t u : State}

/-! ### The copy engine stands -/

/-- Between `s` and `t` neither the copy engine nor its access moved. -/
structure State.KeepsCopy (s t : State) : Prop where
  por : t.por = s.por
  copy : t.copy = s.copy
  waiting : t.port.copyWaiting = s.port.copyWaiting
  granted : t.port.copyGranted = s.port.copyGranted

theorem State.KeepsCopy.refl (s : State) : s.KeepsCopy s := ⟨rfl, rfl, rfl, rfl⟩

theorem State.KeepsCopy.trans (h : s.KeepsCopy t) (k : t.KeepsCopy u) : s.KeepsCopy u :=
  ⟨k.por.trans h.por, k.copy.trans h.copy, k.waiting.trans h.waiting, k.granted.trans h.granted⟩

theorem MemoryPort.copyGranted_of_current {p q : MemoryPort} (h : q.current = p.current) :
    q.copyGranted = p.copyGranted := by
  unfold MemoryPort.copyGranted
  rw [h]

/-- The copy engine stands when its waiting request and the grant stand. -/
theorem State.KeepsCopy.of_current (hp : t.por = s.por) (hc : t.copy = s.copy)
    (hw : t.port.copyWaiting = s.port.copyWaiting) (hg : t.port.current = s.port.current) : s.KeepsCopy t :=
  ⟨hp, hc, hw, MemoryPort.copyGranted_of_current hg⟩

/-- The end of a grant that is not the copy's. -/
theorem State.endGrant_keepsCopy (h : s.port.copyGranted = none) : s.KeepsCopy s.endGrant := ⟨rfl, rfl, rfl, h.symm⟩

theorem State.KeepsCopy.copyOk (k : s.KeepsCopy t) (h : s.CopyOk) : t.CopyOk where
  ended hp ho := by
    rw [k.copy, k.waiting, k.granted]
    exact h.ended (k.por ▸ hp) (k.copy ▸ ho)
  active hp ho := by
    rw [k.copy]
    exact h.active (k.por ▸ hp) (k.copy ▸ ho)
  access hp ho := by
    rw [k.copy, k.waiting, k.granted]
    exact h.access (k.por ▸ hp) (k.copy ▸ ho)
  rows q hq := h.rows q (k.copy ▸ hq)

/-! ### A position without an access -/

/-- R124: the extent of a latched request. -/
def CopyEngine.RowsOk (c : CopyEngine) : Prop :=
  ∀ q, c.request = some q → 1 ≤ q.rows ∧ q.rows ≤ 1024 ∧ 1 ≤ q.words ∧ q.words ≤ 256

/-- An active copy at a position of its rectangle, between two accesses: the next one is still to be asked for. -/
structure State.CopyReady (s : State) : Prop where
  rows : s.copy.RowsOk
  active : s.copy.outcome = .active
  place : ∃ q, s.copy.request = some q ∧ s.copy.row < q.rows ∧ s.copy.word < q.words ∧
    s.copy.rowsRemaining = q.rows - s.copy.row
  waiting : s.port.copyWaiting = none
  granted : s.port.copyGranted = none
  going : s.copy.cancelling = false

/-- The next access is asked for, or a wait for a place begins. -/
theorem State.CopyReady.asked (r : s.CopyReady) {x : CopyStep} (hx : x ≠ .none)
    (hc : t.copy = { s.copy with step := x }) (hw : t.port.copyWaiting = t.copy.access?)
    (hg : t.port.current = s.port.current) : t.CopyOk where
  ended _ ho := absurd (by rw [hc]; exact r.active) ho
  active _ _ := by
    obtain ⟨q, hq, hrow, hword, hrem⟩ := r.place
    rw [hc]
    exact ⟨q, hq, hrow, hword, hrem, hx⟩
  access _ _ := .inl ⟨hw, (MemoryPort.copyGranted_of_current hg).trans r.granted, by rw [hc]; exact r.going⟩
  rows := by rw [hc]; exact r.rows

theorem State.CopyReady.askCopyWrite (r : s.CopyReady) (w : Word) (d : GuardDecision) : (s.askCopyWrite w d).CopyOk :=
  r.asked (x := .destWrite w d) (fun e => nomatch e) rfl rfl rfl

theorem State.CopyReady.reserve (r : s.CopyReady) : State.CopyReady { s with capture := s.capture.reserve } :=
  ⟨r.rows, r.active, r.place, r.waiting, r.granted, r.going⟩

theorem State.CopyReady.beginCopyWrite (r : s.CopyReady) (w : Word) : (s.beginCopyWrite w).CopyOk := by
  obtain e | ⟨-, -, e⟩ | ⟨-, e⟩ := s.beginCopyWrite_cases w <;> rw [e]
  · exact r.askCopyWrite w _
  · exact r.reserve.askCopyWrite w _
  · exact r.asked (x := .waitPlace w) (fun e => nomatch e) rfl r.waiting rfl

theorem State.beginCopyWord_copy {q : CopyRequest} (hq : s.copy.request = some q) (hm : q.mode = .copy) :
    s.beginCopyWord = ({ s with copy := { s.copy with step := .sourceRead } } : State).askCopy
      (.read (q.sourceAt s.copy.row s.copy.word)) := by
  rw [State.beginCopyWord, hq]
  dsimp only
  rw [hm]

theorem State.beginCopyWord_fill {q : CopyRequest} (hq : s.copy.request = some q) (hm : q.mode = .fill) :
    s.beginCopyWord = s.beginCopyWrite q.fill := by
  rw [State.beginCopyWord, hq]
  dsimp only
  rw [hm]

theorem State.CopyReady.beginCopyWord (r : s.CopyReady) : s.beginCopyWord.CopyOk := by
  obtain ⟨q, hq, -⟩ := r.place
  cases hm : q.mode with
  | copy =>
    rw [State.beginCopyWord_copy hq hm]
    refine r.asked (x := .sourceRead) (fun e => nomatch e) rfl ?_ rfl
    simp [State.askCopy, CopyEngine.access?, hq]
  | fill =>
    rw [State.beginCopyWord_fill hq hm]
    exact r.beginCopyWrite q.fill

/-! ### The end of a copy (R132–R134) -/

theorem State.endCopy_copy (s : State) (o : CopyOutcome) :
    (s.endCopy o).copy = { s.copy with outcome := o, step := .none, cancelling := false } := by
  unfold State.endCopy
  dsimp only
  split <;> rfl

/-- A copy that ended, with no access waiting or granted. -/
theorem State.CopyOk.of_ended (hr : t.copy.RowsOk) (ho : t.copy.outcome ≠ .active) (hs : t.copy.step = .none)
    (hc : t.copy.cancelling = false) (hw : t.port.copyWaiting = none) (hg : t.port.copyGranted = none) : t.CopyOk where
  ended _ _ := ⟨hs, hc, hw, hg⟩
  active _ h := absurd h ho
  access _ h := absurd h ho
  rows := hr

theorem State.CopyOk.endCopy (s : State) (hr : s.copy.RowsOk) (hw : s.port.copyWaiting = none) (hg : s.port.copyGranted = none)
    {o : CopyOutcome} (ho : o ≠ .active) : (s.endCopy o).CopyOk := by
  have hc := s.endCopy_copy o
  exact .of_ended (by rw [hc]; exact hr) (by rw [hc]; exact ho) (by rw [hc]) (by rw [hc]) (by simpa using hw)
    ((MemoryPort.copyGranted_of_current (by simp)).trans hg)

/-! ### The accesses of the copy in hand -/

/-- A granted access that has not been given up is the copy's. -/
theorem State.CopyOk.owned (h : s.CopyOk) (hp : s.por = false) {a : CopyAccess}
    (hc : s.port.current = some (.copy a true)) :
    s.copy.outcome = .active ∧ s.port.copyWaiting = none ∧ s.copy.access? = some a := by
  have hg := MemoryPort.copyGranted_iff.2 hc
  have ho : s.copy.outcome = .active := by
    by_contra ho
    obtain ⟨-, -, -, hn⟩ := h.ended hp ho
    cases hg.symm.trans hn
  refine ⟨ho, ?_⟩
  obtain ⟨-, hn, -⟩ | ⟨hw, ha, -⟩ := h.access hp ho
  · cases hg.symm.trans hn
  · exact ⟨hw, ha.symm.trans hg⟩

/-- When the copy's access has completed the position stands without one. -/
theorem State.CopyOk.readyAtEnd (h : s.CopyOk) (hp : s.por = false) {a : CopyAccess}
    (hc : s.port.current = some (.copy a true)) (hn : s.copy.cancelling = false) : s.endGrant.CopyReady := by
  obtain ⟨ho, hw, -⟩ := h.owned hp hc
  obtain ⟨q, hq, hrow, hword, hrem, -⟩ := h.active hp ho
  exact ⟨h.rows, ho, ⟨q, hq, hrow, hword, hrem⟩, hw, rfl, hn⟩

/-- A copy that waits for a place has no access. -/
theorem State.CopyOk.readyAtWait (h : s.CopyOk) (hp : s.por = false) {w : Word} (hs : s.copy.step = .waitPlace w) :
    s.CopyReady := by
  have ho : s.copy.outcome = .active := by
    by_contra ho
    obtain ⟨hn, -⟩ := h.ended hp ho
    cases hs.symm.trans hn
  have hnone : s.copy.access? = none := by rw [CopyEngine.access?, hs]
  obtain ⟨q, hq, hrow, hword, hrem, -⟩ := h.active hp ho
  obtain ⟨hw, hg, hc⟩ | ⟨-, hg, hne⟩ := h.access hp ho
  · exact ⟨h.rows, ho, ⟨q, hq, hrow, hword, hrem⟩, hw.trans hnone, hg, hc⟩
  · exact absurd (hg.trans hnone) hne

/-- R64, R129: at an emptying the copy keeps its position; a wait for a place becomes its write. -/
theorem State.CopyOk.of_letsGo (h : s.CopyOk) (g : s.CopyLetGo t) (hp : t.por = s.por)
    (hg : t.port.copyGranted = s.port.copyGranted) : t.CopyOk := by
  by_cases hw : ∃ w, s.copy.step = .waitPlace w
  · obtain ⟨w, hw⟩ := hw
    obtain ⟨hc, hask⟩ := g.waiting w hw
    cases hpor : s.por with
    | true =>
      rw [hpor] at hp
      exact ⟨fun hn => (by rw [hp] at hn; cases hn), fun hn => (by rw [hp] at hn; cases hn),
        fun hn => (by rw [hp] at hn; cases hn), by rw [hc]; exact h.rows⟩
    | false =>
      have r := h.readyAtWait hpor hw
      have ho : t.copy.outcome = .active := by rw [hc]; exact r.active
      obtain ⟨q, hq, hrow, hword, hrem⟩ := r.place
      exact ⟨fun _ hn => absurd ho hn,
        fun _ _ => (by rw [hc]; exact ⟨q, hq, hrow, hword, hrem, fun e => nomatch e⟩),
        fun _ _ => .inl ⟨(by rw [hask, hc]; rfl), hg.trans r.granted, by rw [hc]; exact r.going⟩,
        by rw [hc]; exact h.rows⟩
  · by_cases hpl : ∃ w, s.copy.step = .destWrite w .placed
    · obtain ⟨w, hpl⟩ := hpl
      obtain ⟨hc, hwait⟩ := g.placed w hpl
      have hacc : t.copy.access? = s.copy.access? := by rw [hc, CopyEngine.access?, CopyEngine.access?, hpl]; rfl
      refine ⟨fun hn ho => ?_, fun hn ho => ?_, fun hn ho => ?_, by rw [hc]; exact h.rows⟩
      · obtain ⟨hstep, -⟩ := h.ended (hp ▸ hn) (by rw [hc] at ho; exact ho)
        cases hpl.symm.trans hstep
      · obtain ⟨q, hq, hrow, hword, hrem, -⟩ := h.active (hp ▸ hn) (by rw [hc] at ho; exact ho)
        rw [hc]
        exact ⟨q, hq, hrow, hword, hrem, fun e => nomatch e⟩
      · rw [hacc, hwait, hg, hc]
        exact h.access (hp ▸ hn) (by rw [hc] at ho; exact ho)
    · obtain ⟨hc, hwait⟩ := g.other (fun w e => hw ⟨w, e⟩) fun w e => hpl ⟨w, e⟩
      exact State.KeepsCopy.copyOk ⟨hp, hc, hwait, hg⟩ h

theorem MemoryPort.dropRender_copyGranted (p : MemoryPort) : p.dropRender.copyGranted = p.copyGranted := by
  by_cases h : ∃ a o, p.current = some (.render a o)
  · obtain ⟨a, o, h⟩ := h
    rw [MemoryPort.copyGranted_of_ne (by simp [p.dropRender_granted h]), MemoryPort.copyGranted_of_ne (by simp [h])]
  · exact MemoryPort.copyGranted_of_current (p.dropRender_other fun a o e => h ⟨a, o, e⟩)

theorem MemoryPort.dropCopy_copyGranted (p : MemoryPort) : p.dropCopy.copyGranted = none := by
  refine MemoryPort.copyGranted_of_ne fun a e => ?_
  unfold MemoryPort.dropCopy at e
  dsimp only at e
  split at e
  · cases e
  · exact absurd e (‹∀ b o, p.current ≠ some (.copy b o)› a true)

theorem State.CopyOk.of_emptied (h : s.CopyOk) (g : s.CopyLetGo t) (hp : t.por = s.por)
    (hc : t.port.current = s.port.dropRender.current) : t.CopyOk :=
  h.of_letsGo g hp ((MemoryPort.copyGranted_of_current hc).trans s.port.dropRender_copyGranted)

/-! ### The commands of the copy engine (R125, R132) -/

theorem ControlBlock.copyRequest_extent (c : ControlBlock) : 1 ≤ c.copyRequest.rows ∧ c.copyRequest.rows ≤ 1024 ∧
    1 ≤ c.copyRequest.words ∧ c.copyRequest.words ≤ 256 := by
  simp only [ControlBlock.copyRequest]
  omega

theorem State.CopyOk.doStartCopy (h : s.CopyOk) (hp : s.por = false) : s.doStartCopy.1.CopyOk := by
  obtain e | ⟨ho, e⟩ := s.doStartCopy_cases <;> rw [e]
  · exact h
  · obtain ⟨-, -, hw, hg⟩ := h.ended hp ho
    have hext := s.control.copyRequest_extent
    have hrow : 0 < s.control.copyRequest.rows ∧ 0 < s.control.copyRequest.words := ⟨hext.1, by omega⟩
    refine State.CopyReady.beginCopyWord ⟨fun q hq => ?_, rfl, ⟨_, rfl, hrow.1, hrow.2, rfl⟩, hw, hg, rfl⟩
    cases hq
    exact hext

theorem State.CopyOk.doCancelCopy (h : s.CopyOk) (hp : s.por = false) : s.doCancelCopy.1.CopyOk := by
  have copying : s.port.copying = true ↔ ∃ a, s.port.current = some (.copy a true) := by
    unfold MemoryPort.copying
    split
    · rename_i a e; exact ⟨fun _ => ⟨a, e⟩, fun _ => rfl⟩
    · rename_i hn; exact ⟨(fun e => nomatch e), fun ⟨a, e⟩ => absurd e (hn a)⟩
  obtain e | ⟨ho, -, ⟨hc, e⟩ | ⟨hc, e⟩⟩ := s.doCancelCopy_cases <;> rw [e]
  · exact h
  · obtain ⟨a, ha⟩ := copying.1 hc
    obtain ⟨-, hw, hacc⟩ := h.owned hp ha
    have hg := MemoryPort.copyGranted_iff.2 ha
    exact ⟨fun _ hn => absurd ho hn, fun _ _ => h.active hp ho,
      fun _ _ => .inr ⟨hw, hg.trans hacc.symm, fun hn => nomatch hg.symm.trans hn⟩, h.rows⟩
  · refine .endCopy _ ?_ ?_ (MemoryPort.copyGranted_of_ne fun a ha => ?_) (fun e => nomatch e)
    · exact h.rows
    · rfl
    · rw [copying.2 ⟨a, ha⟩] at hc
      cases hc

/-- A command that keeps the copy's invariant while POR is negated, with its take and its record. -/
theorem commandRow_copyOk {isMine : Byte → Bool} {act : State → State × CommandOutcome}
    (hact : ∀ {u : State}, u.por = false → u.CopyOk → (act u).1.por = false ∧ (act u).1.CopyOk) (hp : s.por = false)
    (h : commandRow isMine act s = some t) (hs : s.CopyOk) : t.CopyOk :=
  (commandRow_keeps (P := fun u => u.por = false ∧ u.CopyOk)
    (fun k _ _ => ⟨by simpa using k.1, State.KeepsCopy.copyOk (.of_current (by simp) (by simp) (by simp) (by simp)) k.2⟩)
    (fun k _ _ => ⟨by simpa using k.1, State.KeepsCopy.copyOk (.of_current (by simp) (by simp) (by simp) (by simp)) k.2⟩)
    (fun k => hact k.1 k.2) h ⟨hp, hs⟩).2

theorem commandRow_keepsCopy {isMine : Byte → Bool} {act : State → State × CommandOutcome}
    (hact : ∀ u : State, u.KeepsCopy (act u).1) (h : commandRow isMine act s = some t) : s.KeepsCopy t :=
  commandRow_keeps (P := fun u => s.KeepsCopy u)
    (fun k _ _ => k.trans (.of_current (by simp) (by simp) (by simp) (by simp)))
    (fun k _ _ => k.trans (.of_current (by simp) (by simp) (by simp) (by simp))) (fun k => k.trans (hact _)) h
    (State.KeepsCopy.refl s)

/-! ### A completed destination write (R126, R128, R132) -/

/-- R126: the position moves on inside the rectangle unless the word was the last. -/
theorem State.CopyReady.moved (r : s.CopyReady) {q : CopyRequest} (hq : s.copy.request = some q)
    (hn : ¬(s.copy.word + 1 = q.words ∧ s.copy.row + 1 = q.rows)) : (s.copyMoved q).CopyReady := by
  obtain ⟨q', hq', hrow, hword, hrem⟩ := r.place
  cases hq.symm.trans hq'
  refine ⟨r.rows, r.active, ⟨q, hq, ?_⟩, r.waiting, r.granted, r.going⟩
  simp only [State.copyMoved]
  split <;> omega

theorem State.CopyOk.copyWritten (hp : s.por = false) (hs : s.CopyOk) {a : Addr} {w : Word}
    (hc : s.port.current = some (.copy (.write a w) true)) {q : CopyRequest} (hq : s.copy.request = some q)
    (d : GuardDecision) : (s.endGrant.copyWritten q a w d).CopyOk := by
  obtain ⟨-, hw, -⟩ := hs.owned hp hc
  unfold State.copyWritten
  split
  · exact .endCopy { s.endGrant with capture := s.endGrant.capture.release d } hs.rows hw rfl (fun e => nomatch e)
  · have k : s.endGrant.KeepsCopy (s.endGrant.landed a .both w d) := .of_current (by simp) (by simp) (by simp) (by simp)
    have hend {o : CopyOutcome} (ho : o ≠ .active) :
        (((s.endGrant.landed a .both w d).copyMoved q).endCopy o).CopyOk := by
      refine .endCopy ((s.endGrant.landed a .both w d).copyMoved q) ?_ (k.waiting.trans hw) k.granted ho
      have hr : (s.endGrant.landed a .both w d).copy.RowsOk := by rw [k.copy]; exact hs.rows
      exact hr
    obtain ⟨-, e⟩ | ⟨hn, ⟨-, -, e⟩ | ⟨hm, e⟩⟩ := (s.endGrant.landed a .both w d).copyAdvance_cases q <;> rw [e]
    · exact hend fun e => nomatch e
    · exact hend fun e => nomatch e
    · have r := hs.readyAtEnd hp hc (by rw [k.copy] at hn; exact hn)
      refine State.CopyReady.beginCopyWord (State.CopyReady.moved ?_ (by rw [k.copy]; exact hq) hm)
      exact ⟨by rw [k.copy]; exact r.rows, by rw [k.copy]; exact r.active, by rw [k.copy]; exact r.place,
        k.waiting.trans r.waiting, k.granted.trans r.granted, by rw [k.copy]; exact r.going⟩

/-! ### The rows -/

/-- The rows that move the copy engine or its access. -/
inductive CopyRow : (State → Option State) → Prop
  | restartPanel : CopyRow rowRestartPanel
  | stopPanel : CopyRow rowStopPanel
  | startCopy : CopyRow rowStartCopy
  | cancelCopy : CopyRow rowCancelCopy
  | commitApply : CopyRow rowCommitApply
  | hvokSeen : CopyRow rowHvokSeen
  | hvokLost : CopyRow rowHvokLost
  | hvocSeen : CopyRow rowHvocSeen
  | groupStrike (axis : Axis) (g : Nat) : CopyRow (rowGroupStrike axis g)
  | chargeTimeout : CopyRow rowChargeTimeout
  | restEnd : CopyRow rowRestEnd
  | grantDecision : CopyRow rowGrantDecision
  | copyReadDone : CopyRow rowCopyReadDone
  | copyPlaceGiven : CopyRow rowCopyPlaceGiven
  | copyWriteDone : CopyRow rowCopyWriteDone

/-- The end of a grant that is not the copy's, and then a step that leaves the copy engine alone. -/
theorem State.KeepsCopy.of_endGrant (h : ∀ a, s.port.current ≠ some (.copy a true)) (hp : t.por = s.por)
    (hc : t.copy = s.copy) (hw : t.port.copyWaiting = s.port.copyWaiting) (hg : t.port.current = none) :
    s.KeepsCopy t :=
  (State.endGrant_keepsCopy (MemoryPort.copyGranted_of_ne h)).trans (.of_current hp hc hw hg)

/-- Every other row of the blocks leaves the copy engine and its access alone. -/
theorem InnerRow.copying {row : State → Option State} (hr : InnerRow row) (h : row s = some t) :
    CopyRow row ∨ s.KeepsCopy t := by
  cases hr
  case stallExpiry =>
    obtain ⟨a, l, w, -, rfl⟩ := rowStallExpiry_cases h
    exact .inr (.of_current rfl rfl rfl rfl)
  case heldWritePlaced =>
    obtain ⟨a, l, w, -, -, rfl⟩ := rowHeldWritePlaced_cases h
    exact .inr (.of_current rfl rfl rfl rfl)
  case passthroughReadDone =>
    obtain ⟨a, hc, -, rfl⟩ := rowPassthroughReadDone_cases h
    exact .inr (.of_endGrant (by simp [hc]) rfl rfl rfl rfl)
  case passthroughWriteDone =>
    obtain ⟨a, lanes, w, d, hc, -, ⟨-, rfl⟩ | ⟨l, -, rfl⟩⟩ := rowPassthroughWriteDone_cases h
    · exact .inr (.of_endGrant (by simp [hc]) rfl rfl rfl rfl)
    · exact .inr (.of_endGrant (by simp [hc]) (by simp [State.endCycle]) (by simp [State.endCycle])
        (by simp [State.endCycle]) (by simp [State.endCycle]))
  case stagedWrite =>
    obtain ⟨o, rest, rfl⟩ := rowStagedWrite_cases h
    exact .inr (.of_current rfl rfl rfl rfl)
  case commit =>
    refine .inr (commandRow_keepsCopy (fun u => ?_) h)
    obtain h | h | ⟨-, h⟩ := u.doCommit_cases <;> rw [h] <;> exact ⟨rfl, rfl, rfl, rfl⟩
  case clearFaults =>
    refine .inr (commandRow_keepsCopy (fun u => ?_) h)
    obtain ⟨f, ⟨-, h⟩ | h⟩ := u.doClearFaults_cases <;> rw [h] <;> exact ⟨rfl, rfl, rfl, rfl⟩
  case release => exact .inr (commandRow_keepsCopy (fun u => ⟨rfl, rfl, rfl, rfl⟩) h)
  case resweepAll =>
    refine .inr (commandRow_keepsCopy (fun u => ?_) h)
    obtain h | h := u.doResweepAll_cases <;> rw [h] <;> exact ⟨rfl, rfl, rfl, rfl⟩
  case reportNow => exact .inr (commandRow_keepsCopy State.KeepsCopy.refl h)
  case unknownCommand => exact .inr (commandRow_keepsCopy State.KeepsCopy.refl h)
  case captureItem =>
    obtain ⟨r, rest, -, -, -, rfl⟩ := rowCaptureItem_cases h
    exact .inr (.of_current (by simp [State.captureTaken]) (by simp [State.captureTaken])
      (by simp [State.captureTaken]) (by simp [State.captureTaken]))
  case resweepItem =>
    obtain ⟨c, -, -, -, rfl⟩ := rowResweepItem_cases h
    exact .inr (.of_current (by simp [State.resweepTaken]) (by simp [State.resweepTaken])
      (by simp [State.resweepTaken]) (by simp [State.resweepTaken]))
  case wipeItem =>
    obtain ⟨-, -, -, rfl⟩ := rowWipeItem_cases h
    exact .inr (.of_current rfl rfl rfl rfl)
  case freeEntryWaitEnd =>
    obtain ⟨-, ⟨r, c, rest, -, rfl⟩ | ⟨c, got, toRead, -, rfl⟩⟩ := rowFreeEntryWaitEnd_cases h <;>
      exact .inr (.of_current (by simp) (by simp) (by simp) (by simp))
  case pictureReadDone =>
    obtain ⟨a, ⟨hc, rfl⟩ | ⟨hc, c, got, b, more, -, rfl⟩⟩ := rowPictureReadDone_cases h
    · exact .inr (.of_endGrant (by simp [hc]) rfl rfl rfl rfl)
    · exact .inr (.of_endGrant (by simp [hc]) (by simp) (by simp) (by simp) (by simp))
  case cellWordReadDone =>
    obtain ⟨a, ⟨hc, rfl⟩ | ⟨hc, i, c, -, -, -, rfl⟩⟩ := rowCellWordReadDone_cases h
    · exact .inr (.of_endGrant (by simp [hc]) rfl rfl rfl rfl)
    · exact .inr (.of_endGrant (by simp [hc]) (by simp) (by simp) (by simp) (by simp))
  case writeBackDone =>
    obtain ⟨a, w, ⟨hc, rfl⟩ | ⟨hc, i, -, rfl⟩⟩ := rowWriteBackDone_cases h
    · exact .inr (.of_endGrant (by simp [hc]) rfl rfl rfl rfl)
    · exact .inr (.of_endGrant (by simp [hc]) (by simp [State.writeWord]) (by simp [State.writeWord])
        (by simp [State.writeWord]) (by simp [State.writeWord]))
  case wipeWriteDone =>
    obtain ⟨a, ⟨hc, rfl⟩ | ⟨hc, ⟨-, rfl⟩ | ⟨-, rfl⟩⟩⟩ := rowWipeWriteDone_cases h
    · exact .inr (.of_endGrant (by simp [hc]) rfl rfl rfl rfl)
    · exact .inr (.of_endGrant (by simp [hc]) rfl rfl rfl rfl)
    · have k : s.KeepsCopy (s.wipeWritten a) := .of_endGrant (by simp [hc]) rfl rfl rfl rfl
      exact .inr (k.trans (.of_current (by simp) (by simp) (by simp) (by simp)))
  case sustainCycleStart =>
    obtain ⟨-, rfl⟩ := rowSustainCycleStart_cases h
    have k : s.KeepsCopy s.openCycle := .of_current (by simp) (by simp) (by simp) (by simp)
    exact .inr (k.trans (.of_current (by simp) (by simp) (by simp) (by simp)))
  case phaseBStart => rw [rowPhaseBStart_cases h]; exact .inr ⟨rfl, rfl, rfl, rfl⟩
  case addressPulseStart =>
    obtain ⟨p, rfl⟩ := rowAddressPulseStart_cases h
    exact .inr ⟨rfl, rfl, rfl, rfl⟩
  case addressPulseEnd => rw [rowAddressPulseEnd_cases h]; exact .inr ⟨rfl, rfl, rfl, rfl⟩
  case rampTick => rw [rowRampTick_cases h]; exact .inr ⟨rfl, rfl, rfl, rfl⟩
  case litDurationExpiry =>
    obtain ⟨-, rfl⟩ := rowLitDurationExpiry_cases h
    exact .inr ⟨rfl, rfl, rfl, rfl⟩
  case refreshDue => rw [rowRefreshDue_cases h]; exact .inr ⟨rfl, rfl, rfl, rfl⟩
  case refreshDone =>
    obtain ⟨hc, rfl⟩ := rowRefreshDone_cases h
    exact .inr (.of_endGrant (by simp [hc]) rfl rfl rfl rfl)
  case reportBlockGrant =>
    obtain ⟨hc, rfl⟩ := rowReportBlockGrant_cases h
    exact .inr ⟨rfl, rfl, rfl, (MemoryPort.copyGranted_of_ne (by simp)).trans
      (MemoryPort.copyGranted_of_ne (by simp [hc])).symm⟩
  case reportBlockDone =>
    obtain ⟨words, hc, rfl⟩ := rowReportBlockDone_cases h
    exact .inr (.of_endGrant (by simp [hc]) (by simp) (by simp) (by simp) (by simp))
  case imageGrantDone =>
    obtain ⟨n, u, hc, rfl, ⟨-, rfl⟩ | rfl⟩ := rowImageGrantDone_cases h <;>
      exact .inr (.of_endGrant (by simp [hc]) (by simp) (by simp) (by simp) (by simp))
  case presented =>
    obtain ⟨-, ⟨a, rfl⟩ | ⟨a, v, b, w, rfl⟩⟩ := takePresented_cases h <;>
      exact .inr (.of_current (by simp) (by simp) (by simp) (by simp))
  all_goals exact .inl (by constructor)

theorem CopyRow.copyOk {row : State → Option State} (hr : CopyRow row) (hp : s.por = false) (hs : s.CopyOk)
    (h : row s = some t) : t.CopyOk := by
  have faults : s.Faults t → t.CopyOk := by
    rintro ⟨-, q, k, -, rfl⟩
    have hk : s.KeepsCopy (({ s with seq := q } : State).enterFault k) :=
      .of_current (by simp) (by simp) (by simp) (by simp)
    exact (hk.copyOk hs).of_emptied (State.recover_letsGo _) (by simp) (State.recover_current _)
  cases hr
  case restartPanel =>
    refine commandRow_copyOk (fun {u} hp k => ?_) hp h hs
    obtain e | ⟨-, e⟩ | ⟨-, e⟩ := u.doRestart_cases <;> rw [e]
    · exact ⟨hp, k⟩
    · exact ⟨by simpa using hp, State.KeepsCopy.copyOk (.of_current (by simp) (by simp) (by simp) (by simp)) k⟩
    · exact ⟨by simpa using hp, k.of_emptied u.softRestart_restarts.entry.copy (by simp) rfl⟩
  case stopPanel =>
    refine commandRow_copyOk (fun {u} hp k => ?_) hp h hs
    obtain e | e := u.doStop_cases <;> rw [e]
    · exact ⟨hp, k⟩
    · exact ⟨by simpa using hp, k.of_emptied u.enterDark_letsGo (by simp) rfl⟩
  case startCopy =>
    exact commandRow_copyOk (fun {u} hp k => ⟨by rw [(State.doStartCopy_keepsPicture u).por]; exact hp,
      k.doStartCopy hp⟩) hp h hs
  case cancelCopy =>
    exact commandRow_copyOk (fun {u} hp k => ⟨by rw [(State.doCancelCopy_keepsPicture u).por]; exact hp,
      k.doCancelCopy hp⟩) hp h hs
  case commitApply =>
    obtain ⟨new, -, -, ⟨-, -, rfl⟩ | ⟨-, rfl⟩⟩ := rowCommitApply_cases h
    · have hk : (s.commitApplied new).CopyOk := State.KeepsCopy.copyOk (s := s) ⟨rfl, rfl, rfl, rfl⟩ hs
      exact hk.of_emptied (State.softRestart_restarts _).entry.copy (by simp) rfl
    · exact State.KeepsCopy.copyOk (s := s) ⟨rfl, rfl, rfl, rfl⟩ hs
  case hvokSeen =>
    obtain ⟨-, rfl⟩ := rowHvokSeen_cases h
    exact hs.of_emptied s.enterClearing_enters.copy (by simp) rfl
  case hvokLost => exact faults (rowHvokLost_cases h)
  case hvocSeen => exact faults (rowHvocSeen_cases h)
  case groupStrike => exact faults (rowGroupStrike_cases h)
  case chargeTimeout => exact faults (rowChargeTimeout_cases h)
  case restEnd =>
    obtain ⟨-, ⟨-, rfl⟩ | ⟨-, rfl⟩⟩ := rowRestEnd_cases h
    · exact hs.of_emptied s.barNoGroups_letsGo (by simp) rfl
    · exact State.KeepsCopy.copyOk (.of_current (by simp) (by simp) (by simp) (by simp)) hs
  case grantDecision =>
    obtain ⟨-, q, rfl, -⟩ := rowGrantDecision_cases h
    obtain ⟨hn, ⟨hw, hg⟩ | ⟨hne, hw, hg⟩⟩ := rowGrantDecision_copy h
    · exact State.KeepsCopy.copyOk (s := s) ⟨rfl, rfl, hw, hg.trans hn.symm⟩ hs
    · refine ⟨fun hp ho => ?_, hs.active, fun hp ho => ?_, hs.rows⟩
      · exact absurd (hs.ended hp ho).2.2.1 hne
      · obtain ⟨ha, -, -⟩ | ⟨ha, -, -⟩ := hs.access hp ho
        · exact .inr ⟨hw, hg.trans ha, by rw [hg]; exact hne⟩
        · exact absurd ha hne
  case copyReadDone =>
    obtain ⟨a, ⟨hc, rfl⟩ | ⟨hc, -, ⟨-, rfl⟩ | ⟨hn, rfl⟩⟩⟩ := rowCopyReadDone_cases h
    · exact (State.endGrant_keepsCopy (MemoryPort.copyGranted_of_ne (by simp [hc]))).copyOk hs
    · obtain ⟨-, hw, -⟩ := hs.owned hp hc
      exact .endCopy s.endGrant hs.rows hw rfl (fun e => nomatch e)
    · exact (hs.readyAtEnd hp hc hn).beginCopyWrite _
  case copyPlaceGiven =>
    obtain ⟨w, hstep, -, rfl⟩ := rowCopyPlaceGiven_cases h
    exact (hs.readyAtWait hp hstep).reserve.askCopyWrite w _
  case copyWriteDone =>
    obtain ⟨a, w, ⟨hc, rfl⟩ | ⟨hc, v, d, q, -, hq, rfl⟩⟩ := rowCopyWriteDone_cases h
    · exact State.KeepsCopy.copyOk (.of_endGrant (by simp [hc]) (by simp) (by simp) (by simp) (by simp)) hs
    · exact .copyWritten hp hs hc hq d

theorem PinRow.copyOk {row : State → Option State} (hr : PinRow row) (hs : s.CopyOk) (h : row s = some t) :
    t.CopyOk := by
  cases hr
  case porAssert =>
    obtain ⟨-, rfl⟩ := rowPorAssert_cases h
    exact ⟨(fun hp => nomatch hp), (fun hp => nomatch hp), (fun hp => nomatch hp), hs.rows⟩
  case porEnd =>
    obtain ⟨-, rfl⟩ := rowPorEnd_cases h
    exact .of_ended (fun _ hq => nomatch hq) (fun e => nomatch e) rfl rfl rfl rfl
  case sysclr =>
    obtain ⟨-, rfl⟩ | ⟨-, rfl⟩ := rowSysclr_cases h
    · exact State.KeepsCopy.copyOk (s := s) ⟨rfl, rfl, rfl, rfl⟩ hs
    · have habort : s.abortCopy.CopyOk := by
        obtain ⟨-, e⟩ | ⟨-, e⟩ := s.abortCopy_cases <;> rw [e]
        · exact hs
        · exact .endCopy { s with port := s.port.dropCopy } hs.rows rfl s.port.dropCopy_copyGranted
            (fun e => nomatch e)
      have hd := habort.of_emptied s.abortCopy.enterDark_letsGo (by simp) rfl
      exact State.KeepsCopy.copyOk (s := s.abortCopy.enterDark) ⟨rfl, rfl, rfl, rfl⟩ hd
  case sysclrNegate =>
    rw [rowSysclrNegate_cases h]
    exact State.KeepsCopy.copyOk (s := s) ⟨rfl, rfl, rfl, rfl⟩ hs
  case busRead =>
    obtain ⟨-, rfl | ⟨-, rfl⟩⟩ := rowBusRead_cases h
    · exact State.KeepsCopy.copyOk (s := s) ⟨rfl, rfl, rfl, rfl⟩ hs
    · exact State.KeepsCopy.copyOk (s := s) ⟨rfl, rfl, rfl, rfl⟩ hs
  case busWrite =>
    obtain ⟨-, rfl | ⟨-, rfl⟩⟩ := rowBusWrite_cases h
    · exact State.KeepsCopy.copyOk (s := s) ⟨rfl, rfl, rfl, rfl⟩ hs
    · exact State.KeepsCopy.copyOk (.of_current (by simp) (by simp) (by simp) (by simp)) hs
  case faultInputChange =>
    obtain ⟨_, _, _, _, _, _, _, _, rfl⟩ := rowFaultInputChange_cases h
    exact State.KeepsCopy.copyOk (s := s) ⟨rfl, rfl, rfl, rfl⟩ hs

/-- R124, R126, R132, R133: every row keeps the copy in hand with its one access. -/
theorem copyOk_kept : KeptByRows State.CopyOk where
  pin hr hs h := hr.copyOk hs h
  inner hr hp hs h := (hr.copying h).elim (fun k => k.copyOk hp hs h) fun k => k.copyOk hs
  after hs := State.KeepsCopy.copyOk (.of_current (by simp) (by simp) (by simp) (by simp)) hs
  pending {s _} hs := State.KeepsCopy.copyOk (s := s) ⟨rfl, rfl, rfl, rfl⟩ hs

/-- Settles O59: the item in hand and the copy in hand are each kept by every row. -/
theorem everyStepKeepsItemAndCopy : Obligations.EveryStepKeepsItemAndCopy := fun _ _ h =>
  ⟨fun hr _ _ => step_keeps renderOk_kept h hr, fun hc => step_keeps copyOk_kept h hc⟩

end Sys2Proof.Machine
end

section
/-! PROOFS. Every step keeps the parameter sets valid (R14–R17, R142) and the sequencer's counts, sets and timers
consistent (R95, R99, R102–R104, R108). -/

namespace Sys2Proof.Machine

variable {s t : State}

/-! ### The parameter sets -/

theorem ParamSet.por_valid (straps : BitVec 2) : ParamSet.por.Valid straps where
  base := by decide
  pitch := by decide
  width := by decide
  height := by decide
  origin := by decide
  step := by decide
  tone := by decide
  dither := by decide
  cursor := by decide
  sustain := by decide
  pulse := by decide
  other := by decide
  disjoint := by revert straps; decide

theorem clampTo_bounds {lo hi : Nat} (v : Nat) (h : lo ≤ hi) : lo ≤ clampTo lo hi v ∧ clampTo lo hi v ≤ hi := by
  unfold clampTo
  omega

/-- R16: the picture ends inside memory once the height has been fitted. -/
theorem ControlBlock.candidate_end (c : ControlBlock) :
    c.candidate.base + c.candidate.height * c.candidate.pitch ≤ 262144 := by
  have hb : c.clamped.base ≤ 262143 := Nat.min_le_left _ _
  rw [c.candidate_eq]
  dsimp only
  split
  · have := Nat.div_mul_le_self (262144 - c.clamped.base) c.clamped.pitch
    omega
  · omega

theorem ControlBlock.candidate_height_le (c : ControlBlock) : c.candidate.height ≤ 2048 := by
  have hh : c.clamped.height ≤ 2048 := (clampTo_bounds _ (by decide)).2
  have hb : c.clamped.base ≤ 262143 := Nat.min_le_left _ _
  rw [c.candidate_eq]
  dsimp only
  split
  · have := Nat.div_lt_of_lt_mul (show 262144 - c.clamped.base < c.clamped.pitch * c.clamped.height by
      rw [Nat.mul_comm]; omega)
    omega
  · exact hh

/-- R15: the width fits the pitch, and stays at least one pixel. -/
theorem ControlBlock.candidate_width (c : ControlBlock) : 1 ≤ c.candidate.width ∧ c.candidate.width ≤ 2048 ∧
    c.candidate.width ≤ c.candidate.pitch * c.candidate.format.perWord := by
  have hw : 1 ≤ c.clamped.width ∧ c.clamped.width ≤ 2048 := clampTo_bounds _ (by decide)
  have hp : 1 ≤ c.clamped.pitch := (clampTo_bounds _ (by decide)).1
  have hpos := Nat.mul_pos hp c.clamped.format.perWord_pos
  rw [c.candidate_eq]
  dsimp only
  omega

/-- R14–R17: what a COMMIT checked is valid. -/
theorem ControlBlock.candidate_valid {c : ControlBlock} {straps : BitVec 2} (h : c.candidatePasses straps = true) :
    c.candidate.Valid straps := by
  obtain ⟨hheight, hdisjoint⟩ : c.candidate.height ≠ 0 ∧ c.candidate.overlaps straps = false := by
    simpa [ControlBlock.candidatePasses] using h
  have hwidth := c.candidate_width
  have hend := c.candidate_end
  have hle := c.candidate_height_le
  have htone (i : Fin 16) := c.clamped_toneMap i
  have hmatrix (i : Fin 16) := c.clamped_matrix i
  refine ⟨?_, ?_, hwidth, ⟨by omega, hle, hend⟩, ?_, ?_, ?_, ?_, ?_, ?_, ?_, ?_, hdisjoint⟩ <;> rw [c.candidate_eq]
  · exact Nat.min_le_left _ _
  · exact clampTo_bounds _ (by decide)
  · exact ⟨Nat.min_le_left _ _, Nat.min_le_left _ _⟩
  · exact ⟨clampTo_bounds _ (by decide), clampTo_bounds _ (by decide)⟩
  · exact ⟨Nat.min_le_left _ _, fun i => (htone i).trans_le (Nat.min_le_left _ _)⟩
  · exact ⟨Nat.min_le_left _ _, fun i => (hmatrix i).trans_le (Nat.min_le_left _ _)⟩
  · exact ⟨Nat.min_le_left _ _, Nat.min_le_left _ _, Nat.min_le_left _ _, Nat.min_le_left _ _⟩
  · exact ⟨clampTo_bounds _ (by decide), clampTo_bounds _ (by decide), Nat.min_le_left _ _⟩
  · exact ⟨clampTo_bounds _ (by decide), clampTo_bounds _ (by decide)⟩
  · exact ⟨clampTo_bounds _ (by decide), Nat.min_le_left _ _, Nat.min_le_left _ _, Nat.min_le_left _ _⟩

theorem State.SetsOk.of_same (h : s.SetsOk) (hst : t.standing = s.standing) (hc : t.control.checked = s.control.checked)
    (hx : t.straps = s.straps) : t.SetsOk where
  standing := by rw [hst, hx]; exact h.standing
  checked p hp := by rw [hx]; exact h.checked p (hc ▸ hp)

theorem State.KeepsPicture.setsOk (k : s.KeepsPicture t) (h : s.SetsOk) : t.SetsOk :=
  h.of_same k.standing k.checked k.straps

/-- With no checked set waiting only the standing set matters. -/
theorem State.SetsOk.of_standing (h : t.standing.Valid t.straps) (hc : t.control.checked = none) : t.SetsOk :=
  ⟨h, fun p hp => by rw [hc] at hp; cases hp⟩

theorem State.SetsOk.doCommit (h : s.SetsOk) : s.doCommit.1.SetsOk := by
  obtain e | e | ⟨hp, e⟩ := s.doCommit_cases <;> rw [e]
  · exact h
  · exact h.of_same rfl rfl rfl
  · refine ⟨h.standing, fun p hc => ?_⟩
    cases hc
    exact ControlBlock.candidate_valid hp

/-- A command that keeps the sets, with its take and its record. -/
theorem commandRow_setsOk {isMine : Byte → Bool} {act : State → State × CommandOutcome}
    (hact : ∀ {u : State}, u.SetsOk → (act u).1.SetsOk) (h : commandRow isMine act s = some t) (hs : s.SetsOk) :
    t.SetsOk :=
  commandRow_keeps (P := State.SetsOk) (fun k o rest => (State.takeHandOver_keepsPicture _ o rest).setsOk k)
    (fun k code o => (State.recordCommand_keepsPicture _ code o).setsOk k) hact h hs

theorem State.Faults.setsOk (h : s.Faults t) (hs : s.SetsOk) : t.SetsOk := by
  obtain ⟨-, q, k, -, rfl⟩ := h
  exact hs.of_same (by simp) (by simp) (by simp)

theorem PictureRow.setsOk {row : State → Option State} (hr : PictureRow row) (hs : s.SetsOk) (h : row s = some t) :
    t.SetsOk := by
  cases hr
  case commit => exact commandRow_setsOk (fun k => k.doCommit) h hs
  case restartPanel =>
    refine commandRow_setsOk (fun {u} k => ?_) h hs
    obtain e | ⟨-, e⟩ | ⟨-, e⟩ := u.doRestart_cases <;> rw [e]
    · exact k
    · exact k.of_same (by simp) (by simp) (by simp)
    · exact k.of_same (by simp) (by simp) (by simp)
  case stopPanel =>
    refine commandRow_setsOk (fun {u} k => ?_) h hs
    obtain e | e := u.doStop_cases <;> rw [e]
    · exact k
    · exact k.of_same (by simp) (by simp) (by simp)
  case clearFaults =>
    refine commandRow_setsOk (fun {u} k => ?_) h hs
    obtain ⟨f, ⟨-, e⟩ | e⟩ := u.doClearFaults_cases <;> rw [e] <;> exact k.of_same rfl rfl rfl
  case commitApply =>
    obtain ⟨new, -, hc, ⟨-, -, rfl⟩ | ⟨-, rfl⟩⟩ := rowCommitApply_cases h
    · exact .of_standing (hs.checked new hc) rfl
    · exact .of_standing (hs.checked new hc) rfl
  case captureItem =>
    obtain ⟨r, rest, -, -, -, rfl⟩ := rowCaptureItem_cases h
    exact hs.of_same (by simp [State.captureTaken]) (by simp [State.captureTaken]) (by simp [State.captureTaken])
  case resweepItem =>
    obtain ⟨c, -, -, -, rfl⟩ := rowResweepItem_cases h
    exact hs.of_same (by simp [State.resweepTaken]) (by simp [State.resweepTaken]) (by simp [State.resweepTaken])
  case wipeItem =>
    obtain ⟨-, -, -, rfl⟩ := rowWipeItem_cases h
    exact hs.of_same rfl rfl rfl
  case freeEntryWaitEnd =>
    obtain ⟨-, ⟨r, c, rest, -, rfl⟩ | ⟨c, got, toRead, -, rfl⟩⟩ := rowFreeEntryWaitEnd_cases h <;>
      exact hs.of_same (by simp) (by simp) (by simp)
  case pictureReadDone =>
    obtain ⟨a, ⟨-, rfl⟩ | ⟨-, c, got, b, more, -, rfl⟩⟩ := rowPictureReadDone_cases h <;>
      exact hs.of_same (by simp) (by simp) (by simp)
  case cellWordReadDone =>
    obtain ⟨a, ⟨-, rfl⟩ | ⟨-, i, c, -, -, -, rfl⟩⟩ := rowCellWordReadDone_cases h <;>
      exact hs.of_same (by simp) (by simp) (by simp)
  case writeBackDone =>
    obtain ⟨a, w, ⟨-, rfl⟩ | ⟨-, i, -, rfl⟩⟩ := rowWriteBackDone_cases h <;>
      exact hs.of_same (by simp [State.writeWord]) (by simp [State.writeWord]) (by simp [State.writeWord])
  case wipeWriteDone =>
    obtain ⟨a, ⟨-, rfl⟩ | ⟨-, ⟨-, rfl⟩ | ⟨-, rfl⟩⟩⟩ := rowWipeWriteDone_cases h
    · exact hs.of_same rfl rfl rfl
    · exact hs.of_same rfl rfl rfl
    · have hw : (s.wipeWritten a).SetsOk := hs.of_same rfl rfl rfl
      exact hw.of_same (by simp) (by simp) (by simp)
  case sustainCycleStart =>
    obtain ⟨-, rfl⟩ := rowSustainCycleStart_cases h
    exact hs.of_same (by simp) (by simp) (by simp)
  case hvokSeen =>
    obtain ⟨-, rfl⟩ := rowHvokSeen_cases h
    exact hs.of_same (by simp) (by simp) (by simp)
  case hvokLost => exact (rowHvokLost_cases h).setsOk hs
  case hvocSeen => exact (rowHvocSeen_cases h).setsOk hs
  case groupStrike => exact (rowGroupStrike_cases h).setsOk hs
  case chargeTimeout => exact (rowChargeTimeout_cases h).setsOk hs
  case restEnd =>
    obtain ⟨-, ⟨-, rfl⟩ | ⟨-, rfl⟩⟩ := rowRestEnd_cases h <;> exact hs.of_same (by simp) (by simp) (by simp)
  case litDurationExpiry =>
    obtain ⟨-, rfl⟩ := rowLitDurationExpiry_cases h
    exact hs.of_same rfl rfl rfl
  case grantDecision =>
    obtain ⟨-, q, rfl, -⟩ := rowGrantDecision_cases h
    exact hs.of_same rfl rfl rfl

theorem PinRow.setsOk {row : State → Option State} (hr : PinRow row) (hs : s.SetsOk) (h : row s = some t) :
    t.SetsOk := by
  cases hr
  case porAssert =>
    obtain ⟨-, rfl⟩ := rowPorAssert_cases h
    exact hs.of_same rfl rfl rfl
  case porEnd straps =>
    obtain ⟨-, rfl⟩ := rowPorEnd_cases h
    exact .of_standing (ParamSet.por_valid straps) rfl
  case sysclr =>
    obtain ⟨-, rfl⟩ | ⟨-, rfl⟩ := rowSysclr_cases h
    · exact hs.of_same rfl rfl rfl
    · exact .of_standing (by simpa using hs.standing) rfl
  case sysclrNegate => exact (rowSysclrNegate_keepsPicture h).setsOk hs
  case busRead => exact (rowBusRead_keepsPicture h).setsOk hs
  case busWrite => exact (rowBusWrite_keepsPicture h).setsOk hs
  case faultInputChange =>
    obtain ⟨_, _, _, _, _, _, _, _, rfl⟩ := rowFaultInputChange_cases h
    exact hs.of_same rfl rfl rfl

/-- R14–R17, R142: every row keeps the standing set and a checked set valid. -/
theorem setsOk_kept : KeptByRows State.SetsOk where
  pin hr hs h := hr.setsOk hs h
  inner hr _ hs h := (hr.picture h).elim (fun k => k.setsOk hs h) fun k => k.setsOk hs
  after hs := hs.of_same (by simp) (by simp) (by simp)
  pending hs := hs.of_same rfl rfl rfl

/-! ### The sequencer -/

theorem State.SequencerOk.of_same (h : s.SequencerOk) (hp : t.seq.panel = s.seq.panel)
    (hc : t.seq.recoveryCount = s.seq.recoveryCount)
    (ht : t.seq.chargeTimer = s.seq.chargeTimer ∧ t.seq.restTimer = s.seq.restTimer ∧ t.seq.litTimer = s.seq.litTimer)
    (hd : t.seq.erasesDone = s.seq.erasesDone ∧ t.seq.wipeDone = s.seq.wipeDone)
    (hg : t.seq.strikeX = s.seq.strikeX ∧ t.seq.strikeY = s.seq.strikeY ∧ t.seq.outX = s.seq.outX ∧
      t.seq.outY = s.seq.outY) : t.SequencerOk := by
  obtain ⟨hch, hre, hli⟩ := ht
  obtain ⟨her, hwi⟩ := hd
  obtain ⟨hsx, hsy, hox, hoy⟩ := hg
  obtain ⟨h1, h2, h3, h4, h5, h6, h7, h8, h9, h10⟩ := h
  exact ⟨by rwa [hc], by rwa [hc, hp], by rwa [hc, hp, Sequencer.axisOut, hox, hoy], by rwa [hch, hp], by rwa [hre, hp],
    by rwa [hli, hp], by rwa [hp, her, hwi], by rwa [hp, her, hwi], by rwa [hsx, hox], by rwa [hsy, hoy]⟩

theorem State.SequencerOk.of_seq (h : s.SequencerOk) (e : t.seq = s.seq) : t.SequencerOk :=
  h.of_same (by rw [e]) (by rw [e]) (by rw [e]; exact ⟨rfl, rfl, rfl⟩) (by rw [e]; exact ⟨rfl, rfl⟩)
    (by rw [e]; exact ⟨rfl, rfl, rfl, rfl⟩)

/-- A panel state other than BARRED means a count below 5. -/
theorem State.SequencerOk.count_lt (h : s.SequencerOk) (hb : s.seq.panel ≠ .barred) : s.seq.recoveryCount < 5 := by
  have := h.count
  rcases Nat.lt_or_ge s.seq.recoveryCount 5 with hl | hg
  · exact hl
  · exact absurd (h.limit (by omega)) hb

theorem State.SequencerOk.no_rest (h : s.SequencerOk) (hp : s.seq.panel ≠ .resting) : s.seq.restTimer.isSome = false := by
  rw [h.rest]; exact decide_eq_false hp

theorem State.SequencerOk.no_charge (h : s.SequencerOk) (hp : s.seq.panel ≠ .charging) :
    s.seq.chargeTimer.isSome = false := by
  rw [h.charge]; exact decide_eq_false hp

theorem State.SequencerOk.no_lit (h : s.SequencerOk) (hp : s.seq.panel ≠ .lit) : ¬s.seq.litTimer.isSome = true :=
  fun hl => hp (h.lit hl)

/-! ### The entries to the panel states -/

theorem State.SequencerOk.enterCharging (h : s.SequencerOk) (hb : s.seq.panel ≠ .barred) (hl : s.seq.panel ≠ .lit) :
    s.enterCharging.SequencerOk where
  count := h.count
  limit e := absurd e (Nat.ne_of_lt (h.count_lt hb))
  barred e := nomatch e
  charge := rfl
  rest := rfl
  lit e := absurd e (h.no_lit hl)
  completed e := nomatch e
  clearing e := nomatch e
  groupsX := h.groupsX
  groupsY := h.groupsY

theorem State.EntersClearing.sequencerOk (e : s.EntersClearing t) (h : s.SequencerOk) (hb : s.seq.panel ≠ .barred)
    (hr : s.seq.panel ≠ .resting) : t.SequencerOk := by
  obtain ⟨-, hc, -, hsx, hsy, hox, hoy, -⟩ := e.sequencer
  obtain ⟨her, hwi⟩ := e.flags
  obtain ⟨hch, hli, ht⟩ := e.timers
  have hlt := h.count_lt hb
  refine ⟨by omega, by omega, ?_, ?_, ?_, ?_, ?_, ?_, ?_, ?_⟩
  · rw [e.panel]; exact fun e => nomatch e
  · rw [e.panel, hch]; rfl
  · rw [ht, h.no_rest hr, e.panel]; rfl
  · rw [hli]; exact fun e => nomatch e
  · rw [e.panel]; exact fun e => nomatch e
  · rw [her]; exact fun _ hd => nomatch hd.1
  · rw [hsx, hox]; exact h.groupsX
  · rw [hsy, hoy]; exact h.groupsY

/-- R99, R100: LIT is entered from CLEARING when both completions have been reported. -/
theorem State.SequencerOk.enterLit (h : s.SequencerOk) (hc : s.seq.panel = .clearing) {q : Sequencer}
    (hq : q = { s.seq with erasesDone := true, wipeDone := true }) :
    (State.enterLit { s with seq := q }).SequencerOk := by
  subst hq
  exact
  { count := h.count
    limit := fun e => absurd e (Nat.ne_of_lt (h.count_lt (by rw [hc]; decide)))
    barred := fun e => nomatch e
    charge := h.no_charge (by rw [hc]; decide)
    rest := h.no_rest (by rw [hc]; decide)
    lit := fun _ => rfl
    completed := fun _ => ⟨rfl, rfl⟩
    clearing := fun e => nomatch e
    groupsX := h.groupsX
    groupsY := h.groupsY }

/-- The first of the two completions in CLEARING. -/
theorem State.SequencerOk.completed_once (h : s.SequencerOk) (hc : s.seq.panel = .clearing) {e w : Bool}
    (hn : ¬(e = true ∧ w = true)) :
    State.SequencerOk { s with seq := { s.seq with erasesDone := e, wipeDone := w } } where
  count := h.count
  limit := h.limit
  barred := h.barred
  charge := h.charge
  rest := h.rest
  lit := h.lit
  completed hl := nomatch hc.symm.trans hl
  clearing _ := hn
  groupsX := h.groupsX
  groupsY := h.groupsY

theorem State.SequencerOk.noteErases (h : s.SequencerOk) : s.noteErases.SequencerOk := by
  obtain ⟨-, e⟩ | ⟨hc, hw, e⟩ | ⟨hc, hw, e⟩ := s.noteErases_cases <;> rw [e]
  · exact h
  · exact h.completed_once hc (e := true) (w := s.seq.wipeDone) (by rw [hw]; exact fun hn => nomatch hn.2)
  · exact h.enterLit hc (by rw [← hw])

theorem State.SequencerOk.noteWipe (h : s.SequencerOk) : s.noteWipe.SequencerOk := by
  obtain ⟨-, e⟩ | ⟨hc, hd, e⟩ | ⟨hc, hd, e⟩ := s.noteWipe_cases <;> rw [e]
  · exact h
  · exact h.completed_once hc (e := s.seq.erasesDone) (w := true) (by rw [hd]; exact fun hn => nomatch hn.1)
  · exact h.enterLit hc (by rw [← hd])

/-- R102: a recovery from a powered state. -/
theorem State.SequencerOk.recover (h : s.SequencerOk) (hp : s.seq.panel.powered = true) : s.recover.SequencerOk := by
  have hb : s.seq.panel ≠ .barred := fun e => by rw [e] at hp; cases hp
  have hr : s.seq.panel ≠ .resting := fun e => by rw [e] at hp; cases hp
  have hlt := h.count_lt hb
  obtain ⟨hc, e⟩ | ⟨hc, e⟩ := s.recover_cases <;> rw [e]
  · have hfive : s.seq.recoveryCount + 1 = 5 := by omega
    exact
    { count := Nat.le_of_eq hfive
      limit := fun _ => rfl
      barred := fun _ => .inl hfive
      charge := rfl
      rest := h.no_rest hr
      lit := fun e => nomatch e
      completed := fun e => nomatch e
      clearing := fun e => nomatch e
      groupsX := h.groupsX
      groupsY := h.groupsY }
  · exact
    { count := (by omega : s.seq.recoveryCount + 1 ≤ 5)
      limit := fun (e : s.seq.recoveryCount + 1 = 5) => (by omega)
      barred := fun e => nomatch e
      charge := rfl
      rest := rfl
      lit := fun e => nomatch e
      completed := fun e => nomatch e
      clearing := fun e => nomatch e
      groupsX := h.groupsX
      groupsY := h.groupsY }

theorem State.SequencerOk.barNoGroups (h : s.SequencerOk) (hr : s.seq.panel = .resting) (ho : s.seq.axisOut = true) :
    s.barNoGroups.SequencerOk where
  count := h.count
  limit _ := rfl
  barred _ := .inr ho
  charge := h.no_charge (by rw [hr]; decide)
  rest := rfl
  lit e := absurd e (h.no_lit (by rw [hr]; decide))
  completed e := nomatch e
  clearing e := nomatch e
  groupsX := h.groupsX
  groupsY := h.groupsY

theorem State.SequencerOk.enterDark (h : s.SequencerOk) : s.enterDark.SequencerOk where
  count := Nat.zero_le _
  limit e := nomatch e
  barred e := nomatch e
  charge := rfl
  rest := rfl
  lit e := nomatch e
  completed e := nomatch e
  clearing e := nomatch e
  groupsX := h.groupsX
  groupsY := h.groupsY

/-! ### Strikes (R108) -/

theorem withBit_getLsbD {b : Byte} {g i : Nat} (hg : g < 8) (on : Bool) :
    (withBit b g on).getLsbD i = if i = g then on else b.getLsbD i := by
  unfold withBit
  by_cases hi : i < 8
  · cases on <;> by_cases h : i = g <;> simp [h, hi] <;> omega
  · have h : i ≠ g := by omega
    cases on <;> simp [h, BitVec.getLsbD_of_ge _ i (Nat.le_of_not_lt hi)]

/-- Two disjoint sets of groups stay so when a group outside both moves to the one or to the other. -/
theorem disjoint_strike {a b : Byte} (h : a &&& b = 0) {g : Nat} (hg : g < 8) (hb : b.getLsbD g = false) :
    withBit a g (!a.getLsbD g) &&& (if a.getLsbD g then withBit b g true else b) = 0 := by
  refine BitVec.eq_of_getLsbD_eq fun i hi => ?_
  have hi := congrArg (fun x => x.getLsbD i) h
  simp only [BitVec.getLsbD_and] at hi ⊢
  rw [withBit_getLsbD hg]
  by_cases hig : i = g
  · subst hig
    cases ha : a.getLsbD i <;> simp [hb]
  · rw [if_neg hig]
    split
    · rw [withBit_getLsbD hg, if_neg hig]; exact hi
    · exact hi

theorem Sequencer.strike_keeps (q : Sequencer) (axis : Axis) (g : Nat) : (q.strike axis g).panel = q.panel ∧
    (q.strike axis g).recoveryCount = q.recoveryCount ∧ (q.strike axis g).chargeTimer = q.chargeTimer ∧
    (q.strike axis g).restTimer = q.restTimer ∧ (q.strike axis g).litTimer = q.litTimer ∧
    (q.strike axis g).erasesDone = q.erasesDone ∧ (q.strike axis g).wipeDone = q.wipeDone := by
  cases axis <;> exact ⟨rfl, rfl, rfl, rfl, rfl, rfl, rfl⟩

/-- R108: a strike for a live group keeps the one-strike set and the out-of-service set apart. -/
theorem State.SequencerOk.strike (h : s.SequencerOk) {axis : Axis} {g : Nat}
    (hl : s.seq.groupLive s.standing axis g = true) : State.SequencerOk { s with seq := s.seq.strike axis g } := by
  simp only [Sequencer.groupLive, Sequencer.groupWatched, Bool.and_eq_true, decide_eq_true_eq, Bool.not_eq_true'] at hl
  obtain ⟨ha, ⟨hg, -⟩, ho⟩ := hl
  obtain ⟨hp, hc, hch, hre, hli, her, hwi⟩ := s.seq.strike_keeps axis g
  have hb : s.seq.panel ≠ .barred := fun e => by rw [e] at ha; cases ha
  refine ⟨hc ▸ h.count, hc ▸ hp ▸ h.limit, fun e => absurd (hp ▸ e) hb, hch ▸ hp ▸ h.charge, hre ▸ hp ▸ h.rest,
    hli ▸ hp ▸ h.lit, her ▸ hwi ▸ hp ▸ h.completed, her ▸ hwi ▸ hp ▸ h.clearing, ?_, ?_⟩
  · cases axis
    · exact disjoint_strike h.groupsX hg ho
    · exact h.groupsX
  · cases axis
    · exact h.groupsY
    · exact disjoint_strike h.groupsY hg ho

theorem State.Faults.sequencerOk (h : s.Faults t) (hs : s.SequencerOk) : t.SequencerOk := by
  obtain ⟨hp, q, k, hq, rfl⟩ := h
  have hstruck : State.SequencerOk { s with seq := q } ∧ q.panel = s.seq.panel := by
    cases hq with
    | none => exact ⟨hs, rfl⟩
    | group axis g hl => exact ⟨hs.strike hl, (s.seq.strike_keeps axis g).1⟩
  have hf : (State.enterFault { s with seq := q } k).SequencerOk :=
    hstruck.1.of_same rfl rfl ⟨rfl, rfl, rfl⟩ ⟨rfl, rfl⟩ ⟨rfl, rfl, rfl, rfl⟩
  exact hf.recover ((congrArg PanelState.powered hstruck.2).trans hp)

/-! ### The rows -/

/-- A command that keeps the sequencer in order, with its take and its record. -/
theorem commandRow_sequencerOk {isMine : Byte → Bool} {act : State → State × CommandOutcome}
    (hact : ∀ {u : State}, u.SequencerOk → (act u).1.SequencerOk) (h : commandRow isMine act s = some t)
    (hs : s.SequencerOk) : t.SequencerOk :=
  commandRow_keeps (P := State.SequencerOk) (fun k o rest => k.of_seq (State.takeHandOver_keepsPicture _ o rest).seq)
    (fun k code o => k.of_seq (State.recordCommand_keepsPicture _ code o).seq) hact h hs

theorem State.SequencerOk.slot (h : s.SequencerOk) : s.openCycle.slot.SequencerOk := by
  have ho : s.openCycle.SequencerOk := h.of_seq (by simp)
  obtain e | ⟨-, -, e⟩ | ⟨head, rest, -, -, e⟩ := s.openCycle.slot_cases <;> rw [e]
  · exact ho
  · have he : s.openCycle.erasing.SequencerOk := ho.of_seq rfl
    obtain ⟨-, e⟩ | ⟨-, e⟩ := s.openCycle.globalErase_cases <;> rw [e]
    · exact he
    · exact he.noteErases
  · exact ho.of_seq (by simp)

theorem PictureRow.sequencerOk {row : State → Option State} (hr : PictureRow row) (hs : s.SequencerOk)
    (h : row s = some t) : t.SequencerOk := by
  cases hr
  case commit =>
    refine commandRow_sequencerOk (fun {u} k => ?_) h hs
    obtain e | e | ⟨-, e⟩ := u.doCommit_cases <;> rw [e] <;> exact k.of_seq rfl
  case restartPanel =>
    refine commandRow_sequencerOk (fun {u} k => ?_) h hs
    obtain e | ⟨hd, e⟩ | ⟨hc, e⟩ := u.doRestart_cases <;> rw [e]
    · exact k
    · exact k.enterCharging (by rw [hd]; decide) (by rw [hd]; decide)
    · exact u.softRestart_restarts.entry.sequencerOk k (by rcases hc with hc | hc <;> rw [hc] <;> decide)
        (by rcases hc with hc | hc <;> rw [hc] <;> decide)
  case stopPanel =>
    refine commandRow_sequencerOk (fun {u} k => ?_) h hs
    obtain e | e := u.doStop_cases <;> rw [e]
    · exact k
    · exact k.enterDark
  case clearFaults =>
    refine commandRow_sequencerOk (fun {u} k => ?_) h hs
    obtain ⟨f, ⟨hd, e⟩ | e⟩ := u.doClearFaults_cases <;> rw [e]
    · exact ⟨k.count, k.limit, fun hb => (nomatch hd.symm.trans hb), k.charge, k.rest, k.lit, k.completed, k.clearing,
        BitVec.zero_and, BitVec.zero_and⟩
    · exact k.of_same rfl rfl ⟨rfl, rfl, rfl⟩ ⟨rfl, rfl⟩ ⟨rfl, rfl, rfl, rfl⟩
  case commitApply =>
    obtain ⟨new, -, -, ⟨-, ha, rfl⟩ | ⟨-, rfl⟩⟩ := rowCommitApply_cases h
    · have hc : (s.commitApplied new).SequencerOk :=
        hs.of_same rfl rfl ⟨rfl, rfl, rfl⟩ ⟨rfl, rfl⟩ ⟨rfl, rfl, rfl, rfl⟩
      refine (State.softRestart_restarts _).entry.sequencerOk hc ?_ ?_ <;> intro e <;>
        exact nomatch (congrArg PanelState.addressed e).symm.trans ha
    · exact hs.of_same rfl rfl ⟨rfl, rfl, rfl⟩ ⟨rfl, rfl⟩ ⟨rfl, rfl, rfl, rfl⟩
  case captureItem =>
    obtain ⟨r, rest, -, -, -, rfl⟩ := rowCaptureItem_cases h
    exact hs.of_seq (by simp [State.captureTaken])
  case resweepItem =>
    obtain ⟨c, -, -, -, rfl⟩ := rowResweepItem_cases h
    exact hs.of_seq (by simp [State.resweepTaken])
  case wipeItem =>
    obtain ⟨-, -, -, rfl⟩ := rowWipeItem_cases h
    exact hs.of_seq rfl
  case freeEntryWaitEnd =>
    obtain ⟨-, ⟨r, c, rest, -, rfl⟩ | ⟨c, got, toRead, -, rfl⟩⟩ := rowFreeEntryWaitEnd_cases h <;>
      exact hs.of_seq (by simp)
  case pictureReadDone =>
    obtain ⟨a, ⟨-, rfl⟩ | ⟨-, c, got, b, more, -, rfl⟩⟩ := rowPictureReadDone_cases h <;> exact hs.of_seq (by simp)
  case cellWordReadDone =>
    obtain ⟨a, ⟨-, rfl⟩ | ⟨-, i, c, -, -, -, rfl⟩⟩ := rowCellWordReadDone_cases h <;> exact hs.of_seq (by simp)
  case writeBackDone =>
    obtain ⟨a, w, ⟨-, rfl⟩ | ⟨-, i, -, rfl⟩⟩ := rowWriteBackDone_cases h <;>
      exact hs.of_seq (by simp [State.writeWord])
  case wipeWriteDone =>
    obtain ⟨a, ⟨-, rfl⟩ | ⟨-, ⟨-, rfl⟩ | ⟨-, rfl⟩⟩⟩ := rowWipeWriteDone_cases h
    · exact hs.of_seq rfl
    · exact hs.of_seq rfl
    · exact State.SequencerOk.noteWipe (hs.of_seq rfl)
  case sustainCycleStart =>
    obtain ⟨-, rfl⟩ := rowSustainCycleStart_cases h
    exact hs.slot
  case hvokSeen =>
    obtain ⟨hc, rfl⟩ := rowHvokSeen_cases h
    exact s.enterClearing_enters.sequencerOk hs (by rw [hc]; decide) (by rw [hc]; decide)
  case hvokLost => exact (rowHvokLost_cases h).sequencerOk hs
  case hvocSeen => exact (rowHvocSeen_cases h).sequencerOk hs
  case groupStrike => exact (rowGroupStrike_cases h).sequencerOk hs
  case chargeTimeout => exact (rowChargeTimeout_cases h).sequencerOk hs
  case restEnd =>
    obtain ⟨hc, ⟨ho, rfl⟩ | ⟨-, rfl⟩⟩ := rowRestEnd_cases h
    · exact hs.barNoGroups hc ho
    · exact hs.enterCharging (by rw [hc]; decide) (by rw [hc]; decide)
  case litDurationExpiry =>
    obtain ⟨hl, rfl⟩ := rowLitDurationExpiry_cases h
    exact ⟨Nat.zero_le _, fun e => (nomatch e), fun e => (nomatch hl.symm.trans e), hs.charge, hs.rest,
      fun e => (nomatch e), hs.completed, hs.clearing, hs.groupsX, hs.groupsY⟩
  case grantDecision =>
    obtain ⟨-, q, rfl, -⟩ := rowGrantDecision_cases h
    exact hs.of_seq rfl

theorem PinRow.sequencerOk {row : State → Option State} (hr : PinRow row) (hs : s.SequencerOk) (h : row s = some t) :
    t.SequencerOk := by
  cases hr
  case porAssert =>
    obtain ⟨-, rfl⟩ := rowPorAssert_cases h
    exact hs.of_same rfl rfl ⟨rfl, rfl, rfl⟩ ⟨rfl, rfl⟩ ⟨rfl, rfl, rfl, rfl⟩
  case porEnd straps =>
    obtain ⟨-, rfl⟩ := rowPorEnd_cases h
    exact ⟨Nat.zero_le _, fun e => (nomatch e), fun e => (nomatch e), rfl, rfl, fun e => (nomatch e),
      fun e => (nomatch e), fun e => (nomatch e), BitVec.zero_and, BitVec.zero_and⟩
  case sysclr =>
    obtain ⟨-, rfl⟩ | ⟨-, rfl⟩ := rowSysclr_cases h
    · exact hs.of_seq rfl
    · have hd : s.abortCopy.enterDark.SequencerOk := State.SequencerOk.enterDark (hs.of_seq (by simp))
      exact hd.of_seq rfl
  case sysclrNegate => exact hs.of_seq (rowSysclrNegate_keepsPicture h).seq
  case busRead => exact hs.of_seq (rowBusRead_keepsPicture h).seq
  case busWrite => exact hs.of_seq (rowBusWrite_keepsPicture h).seq
  case faultInputChange =>
    obtain ⟨_, _, _, _, _, _, _, _, rfl⟩ := rowFaultInputChange_cases h
    exact hs.of_same rfl rfl ⟨rfl, rfl, rfl⟩ ⟨rfl, rfl⟩ ⟨rfl, rfl, rfl, rfl⟩

/-- R95, R99, R102–R104, R108: every row keeps the sequencer's counts, sets and timers consistent. -/
theorem sequencerOk_kept : KeptByRows State.SequencerOk where
  pin hr hs h := hr.sequencerOk hs h
  inner hr _ hs h := (hr.picture h).elim (fun k => k.sequencerOk hs h) fun k => hs.of_seq k.seq
  after hs := hs.of_seq (by simp)
  pending hs := hs.of_seq rfl

end Sys2Proof.Machine
end

section
/-! PROOFS. Every step keeps the report unit's one request (R153–R156) and the length of a report block (R118). -/

namespace Sys2Proof.Machine

variable {s t u : State}

/-! ### The report unit's grant and its stage -/

/-- The grant of the report unit in progress. -/
def MemoryPort.reportGranted (p : MemoryPort) : Option Grant :=
  match p.current with
  | some (.reportBlock v) => some (.reportBlock v)
  | some (.image n) => some (.image n)
  | _ => none

theorem MemoryPort.reportGranted_block {p : MemoryPort} {v : Option (List Word)} :
    p.reportGranted = some (.reportBlock v) ↔ p.current = some (.reportBlock v) := by
  unfold MemoryPort.reportGranted
  split <;> simp_all

theorem MemoryPort.reportGranted_image {p : MemoryPort} {n : Nat} :
    p.reportGranted = some (.image n) ↔ p.current = some (.image n) := by
  unfold MemoryPort.reportGranted
  split <;> simp_all

theorem MemoryPort.reportGranted_of_current {p q : MemoryPort} (h : q.current = p.current) :
    q.reportGranted = p.reportGranted := by
  unfold MemoryPort.reportGranted
  rw [h]

theorem MemoryPort.reportGranted_of_ne {p : MemoryPort} (hb : ∀ v, p.current ≠ some (.reportBlock v))
    (hi : ∀ n, p.current ≠ some (.image n)) : p.reportGranted = none := by
  unfold MemoryPort.reportGranted
  split
  · exact absurd ‹_› (hb _)
  · exact absurd ‹_› (hi _)
  · rfl

/-- The block state with the report unit's one request, waiting or granted (R153–R155). -/
inductive ReportStage : BlockState → Option ReportRequest → Option Grant → Prop
  | idle : ReportStage .idle none none
  | blockAsked : ReportStage .waiting (some .block) none
  | blockGranted : ReportStage .waiting none (some (.reportBlock none))
  | writing (words : List Word) : ReportStage .writing none (some (.reportBlock (some words)))
  | imageAsked (n : Nat) : ReportStage .image (some (.image n)) none
  | imageGranted (n : Nat) : ReportStage .image none (some (.image n))

/-- While the report unit has a grant no request waits. -/
theorem ReportStage.no_request {b : BlockState} {r : Option ReportRequest} {g : Grant} (h : ReportStage b r (some g)) :
    r = none := by cases h <;> rfl

theorem ReportStage.asked {r : Option ReportRequest} {g : Option Grant} (h : ReportStage .idle r g) :
    ReportStage .waiting (some .block) g := by
  cases h
  exact .blockAsked

theorem ReportStage.given {b : BlockState} {r : ReportRequest} (h : ReportStage b (some r) none) :
    ReportStage b none (some r.grant) := by
  cases h
  exacts [.blockGranted, .imageGranted _]

theorem ReportStage.image_of_granted {b : BlockState} {r : Option ReportRequest} {n : Nat}
    (h : ReportStage b r (some (.image n))) : b = .image := by
  cases h
  rfl

/-- The report unit with the length of the block it writes. -/
structure State.ReportUnitOk (s : State) : Prop where
  stage : s.por = false → ReportStage s.report.block s.port.reportWaiting s.port.reportGranted
  due : s.report.due = true → s.report.block ≠ .idle
  block : ∀ words, s.port.reportGranted = some (.reportBlock (some words)) → words.length = 16

/-- While a request waits the report unit has no grant. -/
theorem State.ReportOk.no_grant (h : s.ReportOk) (hp : s.por = false) (hw : s.port.reportWaiting ≠ none) :
    s.port.reportGranted = none :=
  let ⟨hb, hi⟩ := h.once hp hw
  MemoryPort.reportGranted_of_ne hb hi

/-- While the report unit has a grant no request waits. -/
theorem State.ReportOk.no_request (h : s.ReportOk) (hp : s.por = false) {g : Grant} (hg : s.port.reportGranted = some g) :
    s.port.reportWaiting = none := by
  by_contra hw
  cases hg.symm.trans (h.no_grant hp hw)

theorem State.ReportOk.stage (h : s.ReportOk) (hp : s.por = false) :
    ReportStage s.report.block s.port.reportWaiting s.port.reportGranted := by
  have himage := h.image hp
  have hwaiting := h.waiting hp
  have hwriting := h.writing hp
  cases hb : s.report.block with
  | idle =>
    rw [hb] at himage hwaiting hwriting
    have hw : s.port.reportWaiting = none := by
      rcases hr : s.port.reportWaiting with _ | _ | n
      · rfl
      · exact nomatch hwaiting.2 (.inl hr)
      · exact nomatch himage.2 ⟨n, .inl hr⟩
    have hg : s.port.reportGranted = none := by
      refine MemoryPort.reportGranted_of_ne (fun v e => ?_) fun n e => nomatch himage.2 ⟨n, .inr e⟩
      rcases v with _ | words
      · exact nomatch hwaiting.2 (.inr e)
      · exact nomatch hwriting.2 ⟨words, e⟩
    rw [hw, hg]
    exact .idle
  | waiting =>
    obtain hw | hc := hwaiting.1 hb
    · rw [hw, h.no_grant hp (by simp [hw])]
      exact .blockAsked
    · have hg := MemoryPort.reportGranted_block.2 hc
      rw [hg, h.no_request hp hg]
      exact .blockGranted
  | writing =>
    obtain ⟨words, hc⟩ := hwriting.1 hb
    have hg := MemoryPort.reportGranted_block.2 hc
    rw [hg, h.no_request hp hg]
    exact .writing words
  | image =>
    obtain ⟨n, hw | hc⟩ := himage.1 hb
    · rw [hw, h.no_grant hp (by simp [hw])]
      exact .imageAsked n
    · have hg := MemoryPort.reportGranted_image.2 hc
      rw [hg, h.no_request hp hg]
      exact .imageGranted n

theorem State.reportUnitOk_iff : s.ReportUnitOk ↔
    s.ReportOk ∧ ∀ words, s.port.current = some (.reportBlock (some words)) → words.length = 16 := by
  constructor
  · intro h
    refine ⟨⟨fun hp => ?_, fun hp => ?_, fun hp => ?_, fun hp hw => ?_, h.due⟩,
      fun words hc => h.block words (MemoryPort.reportGranted_block.2 hc)⟩
    all_goals
      have hst := h.stage hp
      simp only [ne_eq, ← MemoryPort.reportGranted_block, ← MemoryPort.reportGranted_image] at *
      generalize s.port.reportGranted = g at *
      generalize s.port.reportWaiting = r at *
      generalize s.report.block = b at *
      cases hst <;> simp_all
  · rintro ⟨h, hb⟩
    exact ⟨h.stage, h.due, fun words hg => hb words (MemoryPort.reportGranted_block.1 hg)⟩

/-! ### The report unit stands, or a report is made due -/

/-- Between `s` and `t` the report unit's grant stands, and its request too unless a report was made due. -/
structure State.KeepsReport (s t : State) : Prop where
  por : t.por = s.por
  granted : t.port.reportGranted = s.port.reportGranted
  made : s.ReportMade t ∨ (t.report.due = s.report.due ∧ t.report.block = s.report.block ∧
    t.port.reportWaiting = s.port.reportWaiting)

theorem State.KeepsReport.of_made (hp : t.por = s.por) (hc : t.port.current = s.port.current) (m : s.ReportMade t) :
    s.KeepsReport t := ⟨hp, MemoryPort.reportGranted_of_current hc, .inl m⟩

/-- The report unit stands when its flags, its request and the grant stand. -/
theorem State.KeepsReport.of_same (hp : t.por = s.por) (hc : t.port.current = s.port.current)
    (hr : t.report.due = s.report.due ∧ t.report.block = s.report.block)
    (hw : t.port.reportWaiting = s.port.reportWaiting) : s.KeepsReport t :=
  ⟨hp, MemoryPort.reportGranted_of_current hc, .inr ⟨hr.1, hr.2, hw⟩⟩

theorem State.KeepsReport.refl (s : State) : s.KeepsReport s := .of_same rfl rfl ⟨rfl, rfl⟩ rfl

theorem State.KeepsReport.trans (h : s.KeepsReport t) (k : t.KeepsReport u) : s.KeepsReport u := by
  refine ⟨k.por.trans h.por, k.granted.trans h.granted, ?_⟩
  obtain hm | ⟨hd, hb, hw⟩ := h.made
  · obtain km | ⟨kd, kb, kw⟩ := k.made
    · exact .inl (hm.again km)
    · exact .inl ⟨kd.trans hm.due, fun e => ⟨kb.trans (hm.asked e).1, kw.trans (hm.asked e).2⟩,
        fun e => ⟨kb.trans (hm.covered e).1, kw.trans (hm.covered e).2⟩⟩
  · obtain km | ⟨kd, kb, kw⟩ := k.made
    · refine .inl ⟨km.due, fun e => km.asked (hb.trans e), fun e => ?_⟩
      obtain ⟨h1, h2⟩ := km.covered (by rwa [hb])
      exact ⟨h1.trans hb, h2.trans hw⟩
    · exact .inr ⟨kd.trans hd, kb.trans hb, kw.trans hw⟩

theorem State.KeepsReport.unitOk (k : s.KeepsReport t) (h : s.ReportUnitOk) : t.ReportUnitOk := by
  obtain ⟨hst, hd, hbl⟩ := h
  rw [← k.granted] at hst hbl
  rw [← k.por] at hst
  obtain m | ⟨ed, eb, ew⟩ := k.made
  · by_cases hi : s.report.block = .idle
    · obtain ⟨hb, hw⟩ := m.asked hi
      refine ⟨fun hp => ?_, fun _ => by rw [hb]; decide, hbl⟩
      have hs := hst hp
      rw [hi] at hs
      rw [hb, hw]
      exact hs.asked
    · obtain ⟨hb, hw⟩ := m.covered hi
      exact ⟨fun hp => by rw [hb, hw]; exact hst hp, fun _ => by rwa [hb], hbl⟩
  · exact ⟨fun hp => by rw [eb, ew]; exact hst hp, by rwa [ed, eb], hbl⟩

/-- The end of a grant that is not the report unit's, and then a step that leaves it alone. -/
theorem State.endGrant_keepsReport (h : s.port.reportGranted = none) : s.KeepsReport s.endGrant :=
  ⟨rfl, h.symm, .inr ⟨rfl, rfl, rfl⟩⟩

theorem State.reportDue_keepsReport (s : State) : s.KeepsReport s.reportDue := .of_made rfl rfl s.reportDue_made

theorem State.enterCause_keepsReport (s : State) (c : Cause) : s.KeepsReport (s.enterCause c) :=
  .of_made (by simp) (by simp) (s.enterCause_made c)

theorem State.enterFault_keepsReport (s : State) (k : FaultKind) : s.KeepsReport (s.enterFault k) :=
  .of_made (by simp) (by simp) (s.enterFault_made k)

theorem MemoryPort.dropRender_reportGranted (p : MemoryPort) : p.dropRender.reportGranted = p.reportGranted := by
  by_cases h : ∃ a o, p.current = some (.render a o)
  · obtain ⟨a, o, h⟩ := h
    rw [MemoryPort.reportGranted_of_ne (by simp [p.dropRender_granted h]) (by simp [p.dropRender_granted h]),
      MemoryPort.reportGranted_of_ne (by simp [h]) (by simp [h])]
  · exact MemoryPort.reportGranted_of_current (p.dropRender_other fun a o e => h ⟨a, o, e⟩)

theorem MemoryPort.dropCopy_reportGranted (p : MemoryPort) : p.dropCopy.reportGranted = p.reportGranted := by
  unfold MemoryPort.dropCopy
  by_cases h : ∃ a o, p.current = some (.copy a o)
  · obtain ⟨a, o, h⟩ := h
    rw [MemoryPort.reportGranted_of_ne (by simp [h]) (by simp [h]),
      MemoryPort.reportGranted_of_ne (by simp [h]) (by simp [h])]
  · refine MemoryPort.reportGranted_of_current ?_
    dsimp only
    split
    · exact absurd ⟨_, _, ‹_›⟩ h
    · rfl

theorem State.emptyWork_keepsReport (s : State) : s.KeepsReport s.emptyWork :=
  ⟨rfl, s.port.dropRender_reportGranted, .inr ⟨rfl, rfl, rfl⟩⟩

/-- What an entry to a panel state does to the report unit: the work is emptied and a report is made due. -/
theorem State.KeepsReport.of_entry (hp : t.por = s.por) (hc : t.port.current = s.port.dropRender.current)
    (m : s.ReportMade t) : s.KeepsReport t :=
  ⟨hp, (MemoryPort.reportGranted_of_current hc).trans s.port.dropRender_reportGranted, .inl m⟩

theorem State.enterCharging_keepsReport (s : State) : s.KeepsReport s.enterCharging :=
  let m := State.reportDue_made s
  .of_made rfl rfl ⟨m.due, m.asked, m.covered⟩

theorem State.enterClearing_keepsReport (s : State) : s.KeepsReport s.enterClearing :=
  .of_entry rfl rfl s.enterClearing_enters.due

theorem State.softRestart_keepsReport (s : State) : s.KeepsReport s.softRestart :=
  .of_entry rfl rfl s.softRestart_restarts.entry.due

theorem State.enterDark_keepsReport (s : State) : s.KeepsReport s.enterDark :=
  let m := State.reportDue_made s
  .of_entry rfl rfl ⟨m.due, m.asked, m.covered⟩

theorem State.powerDown_keepsReport (s : State) : s.KeepsReport s.powerDown :=
  ⟨rfl, s.port.dropRender_reportGranted, .inr ⟨rfl, rfl, rfl⟩⟩

theorem State.recover_keepsReport (s : State) : s.KeepsReport s.recover := by
  obtain ⟨-, e⟩ | ⟨-, e⟩ := s.recover_cases <;> rw [e]
  · refine (s.powerDown_keepsReport.trans ?_).trans (State.reportDue_keepsReport _)
    exact State.KeepsReport.trans (t := { s.powerDown with seq := { s.powerDown.seq with
      panel := .barred, recoveryCount := s.seq.recoveryCount + 1 } }) (.of_same rfl rfl ⟨rfl, rfl⟩ rfl)
      (State.enterFault_keepsReport _ _)
  · refine s.powerDown_keepsReport.trans ?_
    exact State.KeepsReport.trans (t := { s.powerDown with seq := { s.powerDown.seq with
      panel := .resting, recoveryCount := s.seq.recoveryCount + 1, restTimer := some Config.restMicros } })
      (.of_same rfl rfl ⟨rfl, rfl⟩ rfl) (State.reportDue_keepsReport _)

theorem State.barNoGroups_keepsReport (s : State) : s.KeepsReport s.barNoGroups := by
  refine (s.emptyWork_keepsReport.trans ?_).trans (State.reportDue_keepsReport _)
  exact State.KeepsReport.trans (t := { s.emptyWork with seq := { s.emptyWork.seq with
    panel := .barred, restTimer := none } }) (.of_same rfl rfl ⟨rfl, rfl⟩ rfl) (State.enterFault_keepsReport _ _)

theorem State.enterLit_keepsReport (s : State) : s.KeepsReport s.enterLit :=
  State.KeepsReport.trans (t := { s with
    seq := { s.seq with panel := .lit, litTimer := some Config.litMicros }
    report := { s.report with quietArmed := false } }) (.of_same rfl rfl ⟨rfl, rfl⟩ rfl)
    (State.enterCause_keepsReport _ _)

theorem State.noteErases_keepsReport (s : State) : s.KeepsReport s.noteErases := by
  have k : s.KeepsReport { s with seq := { s.seq with erasesDone := true } } := .of_same rfl rfl ⟨rfl, rfl⟩ rfl
  obtain ⟨-, e⟩ | ⟨-, -, e⟩ | ⟨-, -, e⟩ := s.noteErases_cases <;> rw [e]
  exacts [.refl s, k, k.trans (State.enterLit_keepsReport _)]

theorem State.noteWipe_keepsReport (s : State) : s.KeepsReport s.noteWipe := by
  have k : s.KeepsReport { s with seq := { s.seq with wipeDone := true } } := .of_same rfl rfl ⟨rfl, rfl⟩ rfl
  obtain ⟨-, e⟩ | ⟨-, -, e⟩ | ⟨-, -, e⟩ := s.noteWipe_cases <;> rw [e]
  exacts [.refl s, k, k.trans (State.enterLit_keepsReport _)]

theorem State.slot_keepsReport (s : State) : s.KeepsReport s.openCycle.slot := by
  have k : s.KeepsReport s.openCycle := .of_same rfl rfl ⟨rfl, rfl⟩ rfl
  refine k.trans ?_
  obtain e | ⟨-, -, e⟩ | ⟨head, rest, -, -, e⟩ := s.openCycle.slot_cases <;> rw [e]
  · exact .refl _
  · have ke : s.openCycle.KeepsReport s.openCycle.erasing := .of_same rfl rfl ⟨rfl, rfl⟩ rfl
    obtain ⟨-, e⟩ | ⟨-, e⟩ := s.openCycle.globalErase_cases <;> rw [e]
    exacts [ke, ke.trans (State.noteErases_keepsReport _)]
  · exact .of_same (by simp) (by simp) ⟨by simp, by simp⟩ (by simp)

theorem State.recordCommand_keepsReport (s : State) (code : Byte) (o : CommandOutcome) :
    s.KeepsReport (s.recordCommand code o) := by
  have k : s.KeepsReport (State.reportDue { s with control := { s.control with lastCode := code, lastOutcome := o } }) :=
    State.KeepsReport.trans (t := { s with control := { s.control with lastCode := code, lastOutcome := o } })
      (.of_same rfl rfl ⟨rfl, rfl⟩ rfl) (State.reportDue_keepsReport _)
  unfold State.recordCommand
  dsimp only
  split
  exacts [k, k.trans (State.enterCause_keepsReport _ _)]

theorem State.afterEvent_keepsReport (s : State) : s.KeepsReport s.afterEvent := by
  unfold State.afterEvent
  split
  · exact .refl s
  · have k : s.KeepsReport s.idleCount := .of_same (by simp) (by simp) ⟨by simp, by simp⟩ (by simp)
    refine k.trans ?_
    unfold State.quietCheck
    split
    · exact State.KeepsReport.trans (t := { s.idleCount with report := { s.idleCount.report with quietArmed := false } })
        (.of_same rfl rfl ⟨rfl, rfl⟩ rfl) (State.enterCause_keepsReport _ _)
    · exact .refl _

/-! ### Completed writes and the copy engine -/

theorem State.overflow_keepsReport (s : State) (a : Addr) (l : Lanes) : s.KeepsReport (s.overflow a l) := by
  have k : s.KeepsReport (State.enterCause { s with capture := { s.capture with
      overflows := satAdd s.capture.overflows 1 } } .overflow) :=
    State.KeepsReport.trans (t := { s with capture := { s.capture with overflows := satAdd s.capture.overflows 1 } })
      (.of_same rfl rfl ⟨rfl, rfl⟩ rfl) (State.enterCause_keepsReport _ _)
  unfold State.overflow
  dsimp only
  split
  exacts [k, k.trans (.of_same rfl rfl ⟨rfl, rfl⟩ rfl)]

theorem State.pictureWritten_keepsReport (s : State) (a : Addr) (l : Lanes) (w : Word) (d : GuardDecision) :
    s.KeepsReport (s.pictureWritten a l w d) := by
  unfold State.pictureWritten
  split
  · split
    · exact .of_same rfl rfl ⟨rfl, rfl⟩ rfl
    · split
      · exact .of_same rfl rfl ⟨rfl, rfl⟩ rfl
      · exact s.overflow_keepsReport a l
    · exact s.overflow_keepsReport a l
    · exact s.overflow_keepsReport a l
  · exact .of_same rfl rfl ⟨rfl, rfl⟩ rfl

theorem State.landed_keepsReport (s : State) (a : Addr) (l : Lanes) (w : Word) (d : GuardDecision) :
    s.KeepsReport (s.landed a l w d) := by
  have k : s.KeepsReport (s.writeWord a l w) := .of_same rfl rfl ⟨rfl, rfl⟩ rfl
  refine k.trans ?_
  unfold State.landed
  dsimp only
  split
  · exact .of_same rfl rfl ⟨rfl, rfl⟩ rfl
  · exact State.pictureWritten_keepsReport _ a l w d
  all_goals exact .of_same rfl rfl ⟨rfl, rfl⟩ rfl

theorem State.busWritten_keepsReport (s : State) (a : Addr) (l : Lanes) (w : Word) (d : GuardDecision) :
    s.KeepsReport (s.busWritten a l w d) := by
  unfold State.busWritten
  split
  exacts [.of_same rfl rfl ⟨rfl, rfl⟩ rfl, s.landed_keepsReport a l w d]

theorem State.orphanCopyWritten_keepsReport (s : State) (a : Addr) (w : Word) :
    s.KeepsReport (s.orphanCopyWritten a w) := by
  unfold State.orphanCopyWritten
  split
  exacts [.refl s, s.landed_keepsReport a .both w .unplaced]

theorem State.endCopy_keepsReport (s : State) (o : CopyOutcome) : s.KeepsReport (s.endCopy o) := by
  have k : s.KeepsReport { s with copy := { s.copy with outcome := o, step := .none, cancelling := false } } :=
    .of_same rfl rfl ⟨rfl, rfl⟩ rfl
  unfold State.endCopy
  dsimp only
  split
  exacts [k.trans (State.reportDue_keepsReport _), k.trans (State.enterCause_keepsReport _ _)]

theorem State.copyWritten_keepsReport (s : State) (q : CopyRequest) (a : Addr) (w : Word) (d : GuardDecision) :
    s.KeepsReport (s.copyWritten q a w d) := by
  unfold State.copyWritten
  split
  · exact State.KeepsReport.trans (t := { s with capture := s.capture.release d }) (.of_same rfl rfl ⟨rfl, rfl⟩ rfl)
      (State.endCopy_keepsReport _ _)
  · refine (s.landed_keepsReport a .both w d).trans ?_
    have k : (s.landed a .both w d).KeepsReport ((s.landed a .both w d).copyMoved q) := .of_same rfl rfl ⟨rfl, rfl⟩ rfl
    obtain ⟨-, e⟩ | ⟨-, ⟨-, -, e⟩ | ⟨-, e⟩⟩ := (s.landed a .both w d).copyAdvance_cases q <;> rw [e]
    · exact k.trans (State.endCopy_keepsReport _ _)
    · exact k.trans (State.endCopy_keepsReport _ _)
    · exact k.trans (.of_same (by simp) (by simp) ⟨by simp, by simp⟩ (by simp))

theorem State.abortCopy_keepsReport (s : State) : s.KeepsReport s.abortCopy := by
  have k : s.KeepsReport { s with port := s.port.dropCopy } :=
    ⟨rfl, s.port.dropCopy_reportGranted, .inr ⟨rfl, rfl, rfl⟩⟩
  obtain ⟨-, e⟩ | ⟨-, e⟩ := s.abortCopy_cases <;> rw [e]
  exacts [.refl s, k.trans (State.endCopy_keepsReport _ _)]

theorem State.doCancelCopy_keepsReport (s : State) : s.KeepsReport s.doCancelCopy.1 := by
  obtain e | ⟨-, -, ⟨-, e⟩ | ⟨-, e⟩⟩ := s.doCancelCopy_cases <;> rw [e]
  · exact .refl s
  · exact .of_same rfl rfl ⟨rfl, rfl⟩ rfl
  · exact State.KeepsReport.trans (t := { s with
      port := { s.port with copyWaiting := none }
      capture := s.capture.release s.copy.decision }) (.of_same rfl rfl ⟨rfl, rfl⟩ rfl) (State.endCopy_keepsReport _ _)

theorem State.Faults.keepsReport (h : s.Faults t) : s.KeepsReport t := by
  obtain ⟨-, q, k, -, rfl⟩ := h
  have hq : s.KeepsReport { s with seq := q } := .of_same rfl rfl ⟨rfl, rfl⟩ rfl
  exact (hq.trans (State.enterFault_keepsReport _ k)).trans (State.recover_keepsReport _)

/-! ### The rows -/

/-- A command, with its take and its record. -/
theorem commandRow_keepsReport {isMine : Byte → Bool} {act : State → State × CommandOutcome}
    (hact : ∀ u : State, u.KeepsReport (act u).1) (h : commandRow isMine act s = some t) : s.KeepsReport t :=
  commandRow_keeps (P := fun u => s.KeepsReport u) (fun k _ _ => k.trans (.of_same rfl rfl ⟨rfl, rfl⟩ rfl))
    (fun k code o => k.trans (State.recordCommand_keepsReport _ code o)) (fun k => k.trans (hact _)) h
    (State.KeepsReport.refl s)

/-- The rows of the report unit and of the port's decision. -/
inductive ReportRow : (State → Option State) → Prop
  | grantDecision : ReportRow rowGrantDecision
  | reportBlockGrant : ReportRow rowReportBlockGrant
  | reportBlockDone : ReportRow rowReportBlockDone
  | imageGrantDone : ReportRow rowImageGrantDone

theorem State.KeepsReport.of_endGrant (hb : ∀ v, s.port.current ≠ some (.reportBlock v))
    (hi : ∀ n, s.port.current ≠ some (.image n)) (k : s.endGrant.KeepsReport t) : s.KeepsReport t :=
  (State.endGrant_keepsReport (MemoryPort.reportGranted_of_ne hb hi)).trans k

/-- Every other row of the blocks leaves the report unit alone, or makes a report due. -/
theorem InnerRow.reporting {row : State → Option State} (hr : InnerRow row) (h : row s = some t) :
    ReportRow row ∨ s.KeepsReport t := by
  cases hr
  case stallExpiry =>
    obtain ⟨a, l, w, -, rfl⟩ := rowStallExpiry_cases h
    exact .inr (.of_same rfl rfl ⟨rfl, rfl⟩ rfl)
  case heldWritePlaced =>
    obtain ⟨a, l, w, -, -, rfl⟩ := rowHeldWritePlaced_cases h
    exact .inr (.of_same rfl rfl ⟨rfl, rfl⟩ rfl)
  case passthroughReadDone =>
    obtain ⟨a, hc, -, rfl⟩ := rowPassthroughReadDone_cases h
    exact .inr (.of_endGrant (by simp [hc]) (by simp [hc]) (.of_same rfl rfl ⟨rfl, rfl⟩ rfl))
  case passthroughWriteDone =>
    obtain ⟨a, lanes, w, d, hc, -, ⟨-, rfl⟩ | ⟨l, -, rfl⟩⟩ := rowPassthroughWriteDone_cases h
    · exact .inr (.of_endGrant (by simp [hc]) (by simp [hc]) (.of_same rfl rfl ⟨rfl, rfl⟩ rfl))
    · refine .inr (.of_endGrant (by simp [hc]) (by simp [hc]) ?_)
      exact State.KeepsReport.trans (t := s.endGrant.endCycle) (.of_same rfl rfl ⟨rfl, rfl⟩ rfl)
        (State.busWritten_keepsReport _ a l w d)
  case stagedWrite =>
    obtain ⟨o, rest, rfl⟩ := rowStagedWrite_cases h
    exact .inr (.of_same rfl rfl ⟨rfl, rfl⟩ rfl)
  case commit =>
    refine .inr (commandRow_keepsReport (fun u => ?_) h)
    obtain e | e | ⟨-, e⟩ := u.doCommit_cases <;> rw [e] <;> exact .of_same rfl rfl ⟨rfl, rfl⟩ rfl
  case restartPanel =>
    refine .inr (commandRow_keepsReport (fun u => ?_) h)
    obtain e | ⟨-, e⟩ | ⟨-, e⟩ := u.doRestart_cases <;> rw [e]
    exacts [.refl u, u.enterCharging_keepsReport, u.softRestart_keepsReport]
  case stopPanel =>
    refine .inr (commandRow_keepsReport (fun u => ?_) h)
    obtain e | e := u.doStop_cases <;> rw [e]
    exacts [.refl u, u.enterDark_keepsReport]
  case clearFaults =>
    refine .inr (commandRow_keepsReport (fun u => ?_) h)
    obtain ⟨f, ⟨-, e⟩ | e⟩ := u.doClearFaults_cases <;> rw [e] <;> exact .of_same rfl rfl ⟨rfl, rfl⟩ rfl
  case release => exact .inr (commandRow_keepsReport (fun u => .of_same rfl rfl ⟨rfl, rfl⟩ rfl) h)
  case startCopy =>
    refine .inr (commandRow_keepsReport (fun u => ?_) h)
    obtain e | ⟨-, e⟩ := u.doStartCopy_cases <;> rw [e]
    exacts [.refl u, .of_same (by simp) (by simp) ⟨by simp, by simp⟩ (by simp)]
  case cancelCopy => exact .inr (commandRow_keepsReport State.doCancelCopy_keepsReport h)
  case resweepAll =>
    refine .inr (commandRow_keepsReport (fun u => ?_) h)
    obtain e | e := u.doResweepAll_cases <;> rw [e]
    exacts [.refl u, .of_same rfl rfl ⟨rfl, rfl⟩ rfl]
  case reportNow => exact .inr (commandRow_keepsReport State.KeepsReport.refl h)
  case unknownCommand => exact .inr (commandRow_keepsReport State.KeepsReport.refl h)
  case commitApply =>
    obtain ⟨new, -, -, ⟨-, -, rfl⟩ | ⟨-, rfl⟩⟩ := rowCommitApply_cases h
    · exact .inr (State.KeepsReport.trans (t := s.commitApplied new) (.of_same rfl rfl ⟨rfl, rfl⟩ rfl)
        (State.softRestart_keepsReport _))
    · exact .inr (.of_same rfl rfl ⟨rfl, rfl⟩ rfl)
  case captureItem =>
    obtain ⟨r, rest, -, -, -, rfl⟩ := rowCaptureItem_cases h
    exact .inr (.of_same (by simp [State.captureTaken]) (by simp [State.captureTaken])
      (by simp [State.captureTaken]) (by simp [State.captureTaken]))
  case resweepItem =>
    obtain ⟨c, -, -, -, rfl⟩ := rowResweepItem_cases h
    exact .inr (.of_same (by simp [State.resweepTaken]) (by simp [State.resweepTaken])
      (by simp [State.resweepTaken]) (by simp [State.resweepTaken]))
  case wipeItem =>
    obtain ⟨-, -, -, rfl⟩ := rowWipeItem_cases h
    exact .inr (.of_same rfl rfl ⟨rfl, rfl⟩ rfl)
  case freeEntryWaitEnd =>
    obtain ⟨-, ⟨r, c, rest, -, rfl⟩ | ⟨c, got, toRead, -, rfl⟩⟩ := rowFreeEntryWaitEnd_cases h <;>
      exact .inr (.of_same (by simp) (by simp) (by simp) (by simp))
  case pictureReadDone =>
    obtain ⟨a, ⟨hc, rfl⟩ | ⟨hc, c, got, b, more, -, rfl⟩⟩ := rowPictureReadDone_cases h
    · exact .inr (.of_endGrant (by simp [hc]) (by simp [hc]) (.refl _))
    · exact .inr (.of_endGrant (by simp [hc]) (by simp [hc]) (.of_same (by simp) (by simp) (by simp) (by simp)))
  case cellWordReadDone =>
    obtain ⟨a, ⟨hc, rfl⟩ | ⟨hc, i, c, -, -, -, rfl⟩⟩ := rowCellWordReadDone_cases h
    · exact .inr (.of_endGrant (by simp [hc]) (by simp [hc]) (.refl _))
    · exact .inr (.of_endGrant (by simp [hc]) (by simp [hc]) (.of_same (by simp) (by simp) (by simp) (by simp)))
  case writeBackDone =>
    obtain ⟨a, w, ⟨hc, rfl⟩ | ⟨hc, i, -, rfl⟩⟩ := rowWriteBackDone_cases h <;>
      exact .inr (.of_endGrant (by simp [hc]) (by simp [hc]) (.of_same (by simp [State.writeWord])
        (by simp [State.writeWord]) (by simp [State.writeWord]) (by simp [State.writeWord])))
  case wipeWriteDone =>
    obtain ⟨a, ⟨hc, rfl⟩ | ⟨hc, ⟨-, rfl⟩ | ⟨-, rfl⟩⟩⟩ := rowWipeWriteDone_cases h
    · exact .inr (.of_endGrant (by simp [hc]) (by simp [hc]) (.of_same rfl rfl ⟨rfl, rfl⟩ rfl))
    all_goals
      have k : s.KeepsReport (s.wipeWritten a) :=
        .of_endGrant (by simp [hc]) (by simp [hc]) (.of_same rfl rfl ⟨rfl, rfl⟩ rfl)
    · exact .inr k
    · exact .inr (k.trans (State.noteWipe_keepsReport _))
  case sustainCycleStart =>
    obtain ⟨-, rfl⟩ := rowSustainCycleStart_cases h
    exact .inr s.slot_keepsReport
  case phaseBStart => rw [rowPhaseBStart_cases h]; exact .inr (.of_same rfl rfl ⟨rfl, rfl⟩ rfl)
  case addressPulseStart =>
    obtain ⟨p, rfl⟩ := rowAddressPulseStart_cases h
    exact .inr (.of_same rfl rfl ⟨rfl, rfl⟩ rfl)
  case addressPulseEnd => rw [rowAddressPulseEnd_cases h]; exact .inr (.of_same rfl rfl ⟨rfl, rfl⟩ rfl)
  case rampTick => rw [rowRampTick_cases h]; exact .inr (.of_same rfl rfl ⟨rfl, rfl⟩ rfl)
  case hvokSeen =>
    obtain ⟨-, rfl⟩ := rowHvokSeen_cases h
    exact .inr s.enterClearing_keepsReport
  case hvokLost => exact .inr (rowHvokLost_cases h).keepsReport
  case hvocSeen => exact .inr (rowHvocSeen_cases h).keepsReport
  case groupStrike => exact .inr (rowGroupStrike_cases h).keepsReport
  case chargeTimeout => exact .inr (rowChargeTimeout_cases h).keepsReport
  case restEnd =>
    obtain ⟨-, ⟨-, rfl⟩ | ⟨-, rfl⟩⟩ := rowRestEnd_cases h
    exacts [.inr s.barNoGroups_keepsReport, .inr s.enterCharging_keepsReport]
  case litDurationExpiry =>
    obtain ⟨-, rfl⟩ := rowLitDurationExpiry_cases h
    exact .inr (.of_same rfl rfl ⟨rfl, rfl⟩ rfl)
  case refreshDue => rw [rowRefreshDue_cases h]; exact .inr (.of_same rfl rfl ⟨rfl, rfl⟩ rfl)
  case refreshDone =>
    obtain ⟨hc, rfl⟩ := rowRefreshDone_cases h
    exact .inr (.of_endGrant (by simp [hc]) (by simp [hc]) (.of_same rfl rfl ⟨rfl, rfl⟩ rfl))
  case copyReadDone =>
    obtain ⟨a, ⟨hc, rfl⟩ | ⟨hc, -, ⟨-, rfl⟩ | ⟨-, rfl⟩⟩⟩ := rowCopyReadDone_cases h
    · exact .inr (.of_endGrant (by simp [hc]) (by simp [hc]) (.refl _))
    · exact .inr (.of_endGrant (by simp [hc]) (by simp [hc]) (State.endCopy_keepsReport _ _))
    · exact .inr (.of_endGrant (by simp [hc]) (by simp [hc]) (.of_same (by simp) (by simp) (by simp) (by simp)))
  case copyPlaceGiven =>
    obtain ⟨w, -, -, rfl⟩ := rowCopyPlaceGiven_cases h
    exact .inr (.of_same rfl rfl ⟨rfl, rfl⟩ rfl)
  case copyWriteDone =>
    obtain ⟨a, w, ⟨hc, rfl⟩ | ⟨hc, v, d, q, -, -, rfl⟩⟩ := rowCopyWriteDone_cases h
    · exact .inr (.of_endGrant (by simp [hc]) (by simp [hc]) (State.orphanCopyWritten_keepsReport _ a w))
    · exact .inr (.of_endGrant (by simp [hc]) (by simp [hc]) (State.copyWritten_keepsReport _ q a w d))
  case presented =>
    obtain ⟨-, ⟨a, rfl⟩ | ⟨a, v, b, w, rfl⟩⟩ := takePresented_cases h <;>
      exact .inr (.of_same (by simp) (by simp) ⟨by simp, by simp⟩ (by simp))
  all_goals exact .inl (by constructor)

/-- R154: after a report unit's grant the block state is IDLE, or a block is asked for. -/
theorem State.ReportUnitOk.blockIdle (hg : s.port.reportGranted = none) (hw : s.port.reportWaiting = none) :
    s.blockIdle.ReportUnitOk := by
  unfold State.blockIdle
  split
  · have hg' : MemoryPort.reportGranted { s.port with reportWaiting := some .block } = none := hg
    refine ⟨fun _ => ?_, (fun _ e => nomatch e), fun words e => nomatch hg'.symm.trans e⟩
    change ReportStage .waiting (some .block) (MemoryPort.reportGranted { s.port with reportWaiting := some .block })
    rw [hg']
    exact .blockAsked
  · rename_i hd
    refine ⟨fun _ => ?_, fun e => absurd e hd, fun words e => nomatch hg.symm.trans e⟩
    change ReportStage .idle s.port.reportWaiting s.port.reportGranted
    rw [hg, hw]
    exact .idle

/-- R112: a decision moves the report unit's request from the waiting set to the grant, or leaves it waiting. -/
theorem rowGrantDecision_report (h : rowGrantDecision s = some t) : s.port.reportGranted = none ∧
    ((t.port.reportWaiting = s.port.reportWaiting ∧ t.port.reportGranted = none) ∨
      ∃ r, s.port.reportWaiting = some r ∧ t.port.reportWaiting = none ∧ t.port.reportGranted = some r.grant) := by
  obtain ⟨hc, q, rfl, ⟨-, -, rfl⟩ | ⟨g, hg, hq⟩⟩ := rowGrantDecision_cases h
  · have hn : s.port.reportGranted = none := MemoryPort.reportGranted_of_ne (by simp [hc]) (by simp [hc])
    exact ⟨hn, .inl ⟨rfl, hn⟩⟩
  · have hw : q.reportWaiting = g.reportWaiting ∧ q.reportGranted = g.reportGranted := by
      rcases hq with rfl | rfl <;> exact ⟨rfl, rfl⟩
    refine ⟨MemoryPort.reportGranted_of_ne (by simp [hc]) (by simp [hc]), ?_⟩
    dsimp only
    rw [hw.1, hw.2]
    rcases (s.port.mem_candidates g).1 hg with ⟨-, rfl⟩ | ⟨-, rfl⟩ | ⟨r, hr, rfl⟩ | ⟨a, -, rfl⟩ | ⟨a, -, rfl⟩
    · exact .inl ⟨rfl, rfl⟩
    · exact .inl ⟨rfl, rfl⟩
    · exact .inr ⟨r, hr, rfl, by cases r <;> rfl⟩
    · exact .inl ⟨rfl, rfl⟩
    · exact .inl ⟨rfl, rfl⟩

theorem ReportRow.unitOk {row : State → Option State} (hr : ReportRow row) (hp : s.por = false) (hs : s.ReportUnitOk)
    (h : row s = some t) : t.ReportUnitOk := by
  have hst := hs.stage hp
  cases hr
  case grantDecision =>
    obtain ⟨-, q, rfl, -⟩ := rowGrantDecision_cases h
    obtain ⟨hn, ⟨hw, hg⟩ | ⟨r, hr, hw, hg⟩⟩ := rowGrantDecision_report h
    · exact State.KeepsReport.unitOk (s := s) ⟨rfl, hg.trans hn.symm, .inr ⟨rfl, rfl, hw⟩⟩ hs
    · rw [hn, hr] at hst
      refine ⟨fun _ => ?_, hs.due, fun words e => ?_⟩
      · rw [hw, hg]
        exact hst.given
      · rw [hg] at e
        cases r <;> cases e
  case reportBlockGrant =>
    obtain ⟨hc, rfl⟩ := rowReportBlockGrant_cases h
    rw [MemoryPort.reportGranted_block.2 hc] at hst
    have hw : s.port.reportWaiting = none := hst.no_request
    refine ⟨fun _ => ?_, (fun e => nomatch e), fun words e => ?_⟩
    · change ReportStage .writing s.port.reportWaiting (some (.reportBlock (some _)))
      rw [hw]
      exact .writing _
    · cases e; rfl
  case reportBlockDone =>
    obtain ⟨words, hc, rfl⟩ := rowReportBlockDone_cases h
    rw [MemoryPort.reportGranted_block.2 hc] at hst
    have hw : s.port.reportWaiting = none := hst.no_request
    exact .blockIdle (MemoryPort.reportGranted_of_ne (by simp) (by simp)) (by simpa using hw)
  case imageGrantDone =>
    obtain ⟨n, u, hc, rfl, hu⟩ := rowImageGrantDone_cases h
    rw [MemoryPort.reportGranted_image.2 hc] at hst
    have hw : s.port.reportWaiting = none ∧ s.report.block = .image := ⟨hst.no_request, hst.image_of_granted⟩
    obtain ⟨-, rfl⟩ | rfl := hu
    · refine ⟨fun _ => ?_, fun _ => ?_, fun words e => ?_⟩
      · dsimp only
        rw [MemoryPort.reportGranted_of_ne (by simp) (by simp)]
        simp only [State.writeBlock_keeps, State.endGrant_keeps, hw.2]
        exact .imageAsked _
      · simp [hw.2]
      · rw [MemoryPort.reportGranted_of_ne (by simp) (by simp)] at e
        cases e
    · exact .blockIdle (MemoryPort.reportGranted_of_ne (by simp) (by simp)) (by simpa using hw.1)

theorem PinRow.unitOk {row : State → Option State} (hr : PinRow row) (hs : s.ReportUnitOk) (h : row s = some t) :
    t.ReportUnitOk := by
  cases hr
  case porAssert =>
    obtain ⟨-, rfl⟩ := rowPorAssert_cases h
    exact ⟨(fun e => nomatch e), hs.due, fun _ e => nomatch e⟩
  case porEnd straps =>
    obtain ⟨-, rfl⟩ := rowPorEnd_cases h
    exact ⟨fun _ => .imageAsked 1, (fun _ e => nomatch e), fun _ e => nomatch e⟩
  case sysclr =>
    obtain ⟨-, rfl⟩ | ⟨-, rfl⟩ := rowSysclr_cases h
    · exact State.KeepsReport.unitOk (s := s) (.of_same rfl rfl ⟨rfl, rfl⟩ rfl) hs
    · have k := s.abortCopy_keepsReport.trans s.abortCopy.enterDark_keepsReport
      exact State.KeepsReport.unitOk (s := s.abortCopy.enterDark) (.of_same rfl rfl ⟨rfl, rfl⟩ rfl) (k.unitOk hs)
  case sysclrNegate =>
    rw [rowSysclrNegate_cases h]
    exact State.KeepsReport.unitOk (s := s) (.of_same rfl rfl ⟨rfl, rfl⟩ rfl) hs
  case busRead =>
    obtain ⟨-, rfl | ⟨-, rfl⟩⟩ := rowBusRead_cases h <;>
      exact State.KeepsReport.unitOk (s := s) (.of_same rfl rfl ⟨rfl, rfl⟩ rfl) hs
  case busWrite =>
    obtain ⟨-, rfl | ⟨-, rfl⟩⟩ := rowBusWrite_cases h <;>
      exact State.KeepsReport.unitOk (s := s) (.of_same (by simp) (by simp) ⟨by simp, by simp⟩ (by simp)) hs
  case faultInputChange =>
    obtain ⟨_, _, _, _, _, _, _, _, rfl⟩ := rowFaultInputChange_cases h
    exact State.KeepsReport.unitOk (s := s) (.of_same rfl rfl ⟨rfl, rfl⟩ rfl) hs

/-- R118, R153–R156: every row keeps the report unit's one request and the length of its block. -/
theorem reportUnitOk_kept : KeptByRows State.ReportUnitOk where
  pin hr hs h := hr.unitOk hs h
  inner hr hp hs h := (hr.reporting h).elim (fun k => k.unitOk hp hs h) fun k => k.unitOk hs
  after {s} hs := s.afterEvent_keepsReport.unitOk hs
  pending {s _} hs := State.KeepsReport.unitOk (s := s) (.of_same rfl rfl ⟨rfl, rfl⟩ rfl) hs

end Sys2Proof.Machine
end

section
/-! PROOFS. What the correspondence law (R38) rests on: the cell plane is written by the render stage alone (R32), what
a burst does to the glass (R36), and what a change arrival and a take do to the queue (R35, R86). -/

namespace Sys2Proof.Machine

variable {s t u : State}

/-! ### The cell plane in memory -/

/-- Every word of the cell plane reads as before. -/
def State.KeepsPlane (s t : State) : Prop := ∀ a : Addr, s.standing.inPlane a.toNat = true → t.readWord a = s.readWord a

theorem State.readWord_of_dram (hd : t.dram = s.dram) (he : t.dramEpoch = s.dramEpoch) (a : Addr) :
    t.readWord a = s.readWord a := by
  simp only [State.readWord, State.readLane, hd, he]

theorem State.KeepsPlane.of_dram (hd : t.dram = s.dram) (he : t.dramEpoch = s.dramEpoch) : s.KeepsPlane t :=
  fun a _ => State.readWord_of_dram hd he a

theorem State.KeepsPlane.trans (h : s.KeepsPlane t) (hs : t.standing = s.standing) (k : t.KeepsPlane u) :
    s.KeepsPlane u := fun a ha => (k a (hs ▸ ha)).trans (h a ha)

theorem State.classify_plane_iff {a : Addr} : s.classify a = .plane ↔ s.standing.inPlane a.toNat = true := by
  unfold State.classify
  (repeat' split) <;> simp_all

theorem State.landed_dram (s : State) (a : Addr) (l : Lanes) (w : Word) (d : GuardDecision) :
    (s.landed a l w d).dram = (s.writeWord a l w).dram := by
  unfold State.landed
  dsimp only
  split
  · rfl
  · simp
  all_goals rfl

/-- R52: a completed write that is not a cell-plane write leaves the cell plane. -/
theorem State.landed_keepsPlane {a : Addr} (h : s.classify a ≠ .plane) (l : Lanes) (w : Word) (d : GuardDecision) :
    s.KeepsPlane (s.landed a l w d) := by
  intro b hb
  have hne : b ≠ a := fun e => h (State.classify_plane_iff.2 (e ▸ hb))
  rw [State.readWord_of_dram (s := s.writeWord a l w) (s.landed_dram a l w d) (by simp),
    s.readWord_writeWord_other l w hne]

theorem State.busWritten_keepsPlane (s : State) (a : Addr) (l : Lanes) (w : Word) (d : GuardDecision) :
    s.KeepsPlane (s.busWritten a l w d) := by
  unfold State.busWritten
  split
  · exact .of_dram rfl rfl
  · exact State.landed_keepsPlane ‹_› l w d

theorem State.orphanCopyWritten_keepsPlane (s : State) (a : Addr) (w : Word) :
    s.KeepsPlane (s.orphanCopyWritten a w) := by
  unfold State.orphanCopyWritten
  split
  · exact .of_dram rfl rfl
  · exact State.landed_keepsPlane ‹_› .both w .unplaced

theorem State.copyWritten_keepsPlane (s : State) (q : CopyRequest) (a : Addr) (w : Word) (d : GuardDecision) :
    s.KeepsPlane (s.copyWritten q a w d) := by
  unfold State.copyWritten
  split
  · exact .of_dram (by simp) (by simp)
  · exact (State.landed_keepsPlane ‹_› .both w d).trans (by simp) (.of_dram (by simp) (by simp))

theorem State.readWord_writeBlock_outside (s : State) (ws : List Word) {start : Nat} {b : Addr}
    (h : ∀ k < ws.length, b ≠ BitVec.ofNat 18 (start + k)) : (s.writeBlock start ws).readWord b = s.readWord b := by
  induction ws generalizing s start with
  | nil => rfl
  | cons w ws ih =>
    rw [State.writeBlock, ih _ (fun k hk => ?_), s.readWord_writeWord_other .both w (by simpa using h 0 (by simp))]
    have := h (k + 1) (by simpa using hk)
    rwa [Nat.add_assoc, Nat.add_comm 1 k]

/-- R17: no word of the control page lies in the cell plane. -/
theorem ParamSet.Valid.plane_ne_page {p : ParamSet} {straps : BitVec 2} (v : p.Valid straps) {b : Addr}
    (hb : p.inPlane b.toNat = true) {k : Nat} (hk : k ≤ 255) : b ≠ BitVec.ofNat 18 (controlPageStart straps + k) := by
  rintro rfl
  have hstraps := straps.isLt
  have hstart : controlPageStart straps = 65280 + 65536 * straps.toNat := rfl
  have hnat : (BitVec.ofNat 18 (controlPageStart straps + k)).toNat = controlPageStart straps + k :=
    (BitVec.toNat_ofNat _ _).trans (Nat.mod_eq_of_lt (by omega))
  obtain ⟨hpitch, -⟩ := v.pitch
  obtain ⟨hheight, -⟩ := v.height
  have hpos : 0 < p.height * p.pitch := Nat.mul_pos hheight hpitch
  obtain ⟨-, -, hmeet⟩ := (ParamSet.overlaps_eq_false_iff hpos).1 v.disjoint (controlPageStart straps + k)
  exact hmeet ⟨hnat ▸ hb, inControlPage_iff.2 ⟨Nat.le_add_right _ _, by omega⟩⟩

/-- R118, R119: a block written inside the control page leaves the cell plane. -/
theorem State.writeBlock_keepsPlane (v : s.standing.Valid s.straps) {offset : Nat} {ws : List Word}
    (h : offset + ws.length ≤ 256) : s.KeepsPlane (s.writeBlock (controlPageStart s.straps + offset) ws) := by
  intro b hb
  refine s.readWord_writeBlock_outside ws fun k hk => ?_
  rw [Nat.add_assoc]
  exact v.plane_ne_page hb (by omega)

theorem imageWords_extent (n : Nat) : (imageWords n).1 + (imageWords n).2.length ≤ 256 := by
  unfold imageWords
  split <;> decide

/-- A command that leaves memory alone, with its take and its record. -/
theorem commandRow_keepsPlane {isMine : Byte → Bool} {act : State → State × CommandOutcome}
    (hact : ∀ u : State, (act u).1.dram = u.dram ∧ (act u).1.dramEpoch = u.dramEpoch)
    (h : commandRow isMine act s = some t) : s.KeepsPlane t := by
  have hd := commandRow_keeps (P := fun u => u.dram = s.dram ∧ u.dramEpoch = s.dramEpoch)
    (fun k _ _ => by simpa using k) (fun k _ _ => by simpa using k)
    (fun {u} k => ⟨(hact u).1.trans k.1, (hact u).2.trans k.2⟩) h ⟨rfl, rfl⟩
  exact .of_dram hd.1 hd.2

/-- Every row of the blocks but those of the picture path leaves the cell plane. -/
theorem InnerRow.plane {row : State → Option State} (hr : InnerRow row) (v : s.standing.Valid s.straps)
    (hb : s.ReportUnitOk) (h : row s = some t) : PictureRow row ∨ s.KeepsPlane t := by
  have hend {u : State} (hs : s.endGrant.KeepsPlane u) : s.KeepsPlane u := hs
  cases hr
  case stallExpiry =>
    obtain ⟨a, l, w, -, rfl⟩ := rowStallExpiry_cases h
    exact .inr (.of_dram rfl rfl)
  case heldWritePlaced =>
    obtain ⟨a, l, w, -, -, rfl⟩ := rowHeldWritePlaced_cases h
    exact .inr (.of_dram rfl rfl)
  case passthroughReadDone =>
    obtain ⟨a, -, -, rfl⟩ := rowPassthroughReadDone_cases h
    exact .inr (.of_dram rfl rfl)
  case passthroughWriteDone =>
    obtain ⟨a, lanes, w, d, -, -, ⟨-, rfl⟩ | ⟨l, -, rfl⟩⟩ := rowPassthroughWriteDone_cases h
    · exact .inr (.of_dram rfl rfl)
    · exact .inr (State.KeepsPlane.trans (t := s.endGrant.endCycle) (.of_dram rfl rfl) rfl
        (State.busWritten_keepsPlane _ a l w d))
  case stagedWrite =>
    obtain ⟨o, rest, rfl⟩ := rowStagedWrite_cases h
    exact .inr (.of_dram rfl rfl)
  case release => exact .inr (commandRow_keepsPlane (fun u => ⟨rfl, rfl⟩) h)
  case startCopy =>
    refine .inr (commandRow_keepsPlane (fun u => ?_) h)
    obtain e | ⟨-, e⟩ := u.doStartCopy_cases <;> rw [e] <;> simp
  case cancelCopy =>
    refine .inr (commandRow_keepsPlane (fun u => ?_) h)
    obtain e | ⟨-, -, ⟨-, e⟩ | ⟨-, e⟩⟩ := u.doCancelCopy_cases <;> rw [e] <;> simp
  case resweepAll =>
    refine .inr (commandRow_keepsPlane (fun u => ?_) h)
    obtain e | e := u.doResweepAll_cases <;> rw [e] <;> exact ⟨rfl, rfl⟩
  case reportNow => exact .inr (commandRow_keepsPlane (fun u => ⟨rfl, rfl⟩) h)
  case unknownCommand => exact .inr (commandRow_keepsPlane (fun u => ⟨rfl, rfl⟩) h)
  case phaseBStart => rw [rowPhaseBStart_cases h]; exact .inr (.of_dram rfl rfl)
  case addressPulseStart =>
    obtain ⟨p, rfl⟩ := rowAddressPulseStart_cases h
    exact .inr (.of_dram rfl rfl)
  case addressPulseEnd => rw [rowAddressPulseEnd_cases h]; exact .inr (.of_dram rfl rfl)
  case rampTick => rw [rowRampTick_cases h]; exact .inr (.of_dram rfl rfl)
  case refreshDue => rw [rowRefreshDue_cases h]; exact .inr (.of_dram rfl rfl)
  case refreshDone =>
    obtain ⟨-, rfl⟩ := rowRefreshDone_cases h
    exact .inr (.of_dram rfl rfl)
  case reportBlockGrant =>
    obtain ⟨-, rfl⟩ := rowReportBlockGrant_cases h
    exact .inr (.of_dram rfl rfl)
  case reportBlockDone =>
    obtain ⟨words, hc, rfl⟩ := rowReportBlockDone_cases h
    have hlen := hb.block words (MemoryPort.reportGranted_block.2 hc)
    refine .inr (State.KeepsPlane.trans (t := s.endGrant.writeBlock (controlPageStart s.straps + 240) words)
      (hend ?_) (by simp) (.of_dram (by simp) (by simp)))
    exact State.writeBlock_keepsPlane (s := s.endGrant) v (by omega)
  case imageGrantDone =>
    obtain ⟨n, u, -, hu, ht⟩ := rowImageGrantDone_cases h
    have hk : s.KeepsPlane u := hu ▸ hend (State.writeBlock_keepsPlane (s := s.endGrant) v (imageWords_extent n))
    have hst : u.standing = s.standing := by rw [hu]; simp
    obtain ⟨-, rfl⟩ | rfl := ht
    · exact .inr (hk.trans hst (.of_dram rfl rfl))
    · exact .inr (hk.trans hst (.of_dram (by simp) (by simp)))
  case copyReadDone =>
    obtain ⟨a, ⟨-, rfl⟩ | ⟨-, -, ⟨-, rfl⟩ | ⟨-, rfl⟩⟩⟩ := rowCopyReadDone_cases h <;>
      exact .inr (.of_dram (by simp) (by simp))
  case copyPlaceGiven =>
    obtain ⟨w, -, -, rfl⟩ := rowCopyPlaceGiven_cases h
    exact .inr (.of_dram rfl rfl)
  case copyWriteDone =>
    obtain ⟨a, w, ⟨-, rfl⟩ | ⟨-, v, d, q, -, -, rfl⟩⟩ := rowCopyWriteDone_cases h
    · exact .inr (hend (State.orphanCopyWritten_keepsPlane _ a w))
    · exact .inr (hend (State.copyWritten_keepsPlane _ q a w d))
  case presented =>
    obtain ⟨-, ⟨a, rfl⟩ | ⟨a, v, b, w, rfl⟩⟩ := takePresented_cases h <;>
      exact .inr (.of_dram (by simp) (by simp))
  all_goals exact .inl (by constructor)

/-! ### Addresses of the plane -/

theorem ParamSet.planeAddress_toNat {p : ParamSet} (hp : p.planeBlock ≤ 15) {k : Nat} (hk : k < 16384) :
    (BitVec.ofNat 18 (p.planeStart + k)).toNat = p.planeStart + k := by
  have : p.planeStart = 16384 * p.planeBlock := rfl
  exact (BitVec.toNat_ofNat _ _).trans (Nat.mod_eq_of_lt (by omega))

theorem ParamSet.planeAddress_inPlane {p : ParamSet} (hp : p.planeBlock ≤ 15) {k : Nat} (hk : k < 16384) :
    p.inPlane (BitVec.ofNat 18 (p.planeStart + k)).toNat = true := by
  rw [p.planeAddress_toNat hp hk, ParamSet.inPlane_iff]
  omega

theorem ParamSet.planeAddress_inj {p : ParamSet} (hp : p.planeBlock ≤ 15) {j k : Nat} (hj : j < 16384)
    (hk : k < 16384) : BitVec.ofNat 18 (p.planeStart + j) = BitVec.ofNat 18 (p.planeStart + k) ↔ j = k := by
  constructor
  · intro h
    have := congrArg BitVec.toNat h
    rw [p.planeAddress_toNat hp hj, p.planeAddress_toNat hp hk] at this
    omega
  · rintro rfl; rfl

/-- R5: the place of a cell word in the plane. -/
def CellWord.place (c : CellWord) : Nat := 32 * c.line + c.index

theorem ParamSet.cellAddress_eq (p : ParamSet) (c : CellWord) :
    p.cellAddress c = BitVec.ofNat 18 (p.planeStart + c.place) := by
  rw [ParamSet.cellAddress, CellWord.place, Nat.add_assoc]

theorem CellWord.place_lt {c : CellWord} (h : c.onPanel) : c.place < 16384 := by
  obtain ⟨hl, hi⟩ := h
  unfold CellWord.place
  omega

theorem ParamSet.cellAddress_inPlane {p : ParamSet} (hp : p.planeBlock ≤ 15) {c : CellWord} (h : c.onPanel) :
    p.inPlane (p.cellAddress c).toNat = true := by
  rw [p.cellAddress_eq]
  exact p.planeAddress_inPlane hp (c.place_lt h)

theorem ParamSet.cellAddress_inj {p : ParamSet} (hp : p.planeBlock ≤ 15) {c d : CellWord} (hc : c.onPanel)
    (hd : d.onPanel) : p.cellAddress c = p.cellAddress d ↔ c = d := by
  rw [p.cellAddress_eq, p.cellAddress_eq, p.planeAddress_inj hp (c.place_lt hc) (d.place_lt hd)]
  obtain ⟨l, i⟩ := c
  obtain ⟨m, j⟩ := d
  obtain ⟨-, hi⟩ := hc
  obtain ⟨-, hj⟩ := hd
  simp only [CellWord.place, CellWord.mk.injEq] at *
  omega

/-! ### The glass (R36, R92, R94) -/

theorem PanelGlass.erased_shows (column line : Nat) : PanelGlass.erased.shows column line = some false := rfl

theorem cellNumber_inj {c d l m : Nat} (hc : c < 512) (hd : d < 512) :
    cellNumber c l = cellNumber d m ↔ c = d ∧ l = m := by
  unfold cellNumber
  omega

theorem mem_foldl_insertAsc_iff {α : Type} {f : α → Nat} {n : Nat} {xs : List α} {l : List Nat} :
    n ∈ xs.foldl (fun m x => insertAsc (f x) m) l ↔ n ∈ l ∨ ∃ x ∈ xs, n = f x := by
  induction xs generalizing l with
  | nil => simp
  | cons x xs ih =>
    rw [List.foldl_cons, ih, mem_insertAsc_iff]
    simp only [List.mem_cons, exists_eq_or_imp]
    tauto

theorem PanelGlass.shows_eq_some_iff {g : PanelGlass} {column line : Nat} {b : Bool} :
    g.shows column line = some b ↔ g.known = true ∧ (cellNumber column line ∈ g.litCells ↔ b = true) := by
  unfold PanelGlass.shows
  cases g.known <;> cases b <;> simp

theorem PanelGlass.mem_applyBurst_iff {g : PanelGlass} {line n : Nat} {kind : OrderKind} {columns : List Nat} :
    n ∈ (g.applyBurst line kind columns).litCells ↔
      ((∃ c ∈ columns, n = cellNumber c line) ∧ kind = .light) ∨
        ((¬∃ c ∈ columns, n = cellNumber c line) ∧ n ∈ g.litCells) := by
  cases kind with
  | light =>
    simp only [PanelGlass.applyBurst, mem_foldl_insertAsc_iff, and_true]
    by_cases hx : ∃ c ∈ columns, n = cellNumber c line
    · simp only [hx, or_true, true_or]
    · simp only [hx, or_false, false_or, not_false_eq_true, true_and]
  | quench => simp [PanelGlass.applyBurst, and_comm]

theorem PanelGlass.applyBurst_known (g : PanelGlass) (line : Nat) (kind : OrderKind) (columns : List Nat) :
    (g.applyBurst line kind columns).known = g.known := by cases kind <;> rfl

/-- R36: a burst leaves its cells lit or dark by its kind. -/
theorem PanelGlass.shows_applyBurst_own {g : PanelGlass} (hg : g.known = true) {line column : Nat} {kind : OrderKind}
    {columns : List Nat} (hc : column ∈ columns) :
    (g.applyBurst line kind columns).shows column line = some (decide (kind = .light)) := by
  rw [PanelGlass.shows_eq_some_iff, PanelGlass.applyBurst_known, PanelGlass.mem_applyBurst_iff, decide_eq_true_iff]
  have hown : ∃ c ∈ columns, cellNumber column line = cellNumber c line := ⟨column, hc, rfl⟩
  exact ⟨hg, by simp only [hown, true_and, not_true_eq_false, false_and, or_false]⟩

/-- R36: a burst leaves every other cell as it is. -/
theorem PanelGlass.shows_applyBurst_other {g : PanelGlass} {line column l : Nat} {kind : OrderKind}
    {columns : List Nat} (hcol : column < 512) (hcols : ∀ c ∈ columns, c < 512) (h : ¬(l = line ∧ column ∈ columns)) :
    (g.applyBurst line kind columns).shows column l = g.shows column l := by
  have hout : ¬∃ c ∈ columns, cellNumber column l = cellNumber c line := by
    rintro ⟨c, hc, e⟩
    obtain ⟨rfl, hl⟩ := (cellNumber_inj hcol (hcols c hc)).1 e
    exact h ⟨hl, hc⟩
  have hmem : cellNumber column l ∈ (g.applyBurst line kind columns).litCells ↔ cellNumber column l ∈ g.litCells := by
    rw [PanelGlass.mem_applyBurst_iff]
    simp only [hout, false_and, false_or, not_false_eq_true, true_and]
  unfold PanelGlass.shows
  rw [PanelGlass.applyBurst_known]
  simp [hmem]

/-! ### Queue and glass for one cell (R38) -/

/-- The two cases of R38 for a cell whose plane bit is `bit`. -/
def Settled (q : List CellOrder) (g : PanelGlass) (column line : Nat) (bit : Bool) : Prop :=
  (q.any (fun o => o.isAt column line) = false ∧ g.shows column line = some bit) ∨
    (CellOrder.mk column line (kindOf bit) ∈ q ∧ g.shows column line = some (!bit))

theorem State.corresponds_iff {column line : Nat} :
    s.Corresponds column line ↔ Settled s.queue s.glass column line (s.planeBit column line) := Iff.rfl

theorem any_isAt_eq_false_iff {q : List CellOrder} {column line : Nat} :
    q.any (fun o => o.isAt column line) = false ↔ (column, line) ∉ q.map CellOrder.cell := by
  rw [← any_isAt_iff, Bool.not_eq_true]

/-- R35: the change arrival of a cell's own new bit. -/
theorem Settled.flip {q : List CellOrder} {g : PanelGlass} {column line : Nat} {bit : Bool} (hq : DistinctCells q)
    (h : Settled q g column line bit) : Settled (changeArrival q column line (!bit)) g column line (!bit) := by
  obtain ⟨hn, hg⟩ | ⟨hm, hg⟩ := h
  · rw [changeArrival_of_not_waiting _ (any_isAt_eq_false_iff.1 hn)]
    exact .inr ⟨by simp, by rw [hg, Bool.not_not]⟩
  · have hw : (column, line) ∈ q.map CellOrder.cell := List.mem_map.2 ⟨_, hm, rfl⟩
    rw [changeArrival_of_waiting _ hw, hq.eraseP_isAt]
    exact .inl ⟨by simp, hg⟩

/-- R35: the change arrival of another cell. -/
theorem Settled.other {q : List CellOrder} {g : PanelGlass} {column line : Nat} {bit : Bool}
    (h : Settled q g column line bit) {cx cy : Nat} (hne : ¬(cx = column ∧ cy = line)) (b : Bool) :
    Settled (changeArrival q cx cy b) g column line bit := by
  obtain ⟨hn, hg⟩ | ⟨hm, hg⟩ := h
  · refine .inl ⟨any_isAt_eq_false_iff.2 fun hmem => ?_, hg⟩
    obtain ⟨o, ho, hc⟩ := List.mem_map.1 hmem
    obtain ho | rfl := mem_changeArrival ho
    · exact any_isAt_eq_false_iff.1 hn (List.mem_map.2 ⟨o, ho, hc⟩)
    · exact hne ⟨congrArg Prod.fst hc, congrArg Prod.snd hc⟩
  · refine .inr ⟨?_, hg⟩
    by_cases hw : (cx, cy) ∈ q.map CellOrder.cell
    · rw [changeArrival_of_waiting b hw]
      refine (List.mem_eraseP_of_neg fun e => hne ?_).2 hm
      obtain ⟨hx, hy⟩ := CellOrder.isAt_iff.1 e
      exact ⟨hx.symm, hy.symm⟩
    · rw [changeArrival_of_not_waiting b hw]
      exact List.mem_append_left _ hm

/-- R43: a comparison leaves the cells it does not evaluate. -/
theorem Settled.compared_other {line : Nat} {targets : List (Nat × Bool)} {q : List CellOrder} {w : Word}
    {g : PanelGlass} {column l : Nat} {bit : Bool} (hne : ∀ x ∈ targets, ¬(x.1 = column ∧ line = l))
    (h : Settled q g column l bit) : Settled (compareTargets line targets q w).1 g column l bit :=
  compareTargets_keeps (P := fun q => Settled q g column l bit) (fun x hx _ hq => hq.other (hne x hx) x.2) h

/-- R43: a comparison of a cell word keeps the law for the word's own cells, by the bits of the working copy. -/
theorem Settled.compared_own {line index : Nat} {targets : List (Nat × Bool)} (hx : ∀ x ∈ targets, x.1 / 16 = index)
    {q : List CellOrder} (hq : DistinctCells q) {w : Word} {g : PanelGlass} {column : Nat} (hc : column / 16 = index)
    (h : Settled q g column line (cellBitOf w column)) : Settled (compareTargets line targets q w).1 g column line
      (cellBitOf (compareTargets line targets q w).2 column) := by
  induction targets generalizing q w with
  | nil => exact h
  | cons x rest ih =>
    obtain ⟨cx, b⟩ := x
    have hrest : ∀ x ∈ rest, x.1 / 16 = index := fun x hm => hx x (List.mem_cons_of_mem _ hm)
    have hcx : cx / 16 = index := hx _ List.mem_cons_self
    rw [compareTargets]
    split
    · exact ih hrest hq h
    · rename_i hne
      refine ih hrest (hq.changeArrival cx line b) ?_
      rw [cellBitOf_withCellBit]
      by_cases hcc : column = cx
      · subst hcc
        have hb : b = !cellBitOf w column := by
          revert hne
          cases b <;> cases cellBitOf w column <;> simp
        rw [if_pos rfl, hb]
        exact h.flip hq
      · rw [if_neg (by omega)]
        exact h.other (fun e => hcc e.1.symm) b

/-! ### A take (R86, R87) -/

/-- R86: what is gathered and what remains are together the queue. -/
theorem gathered_remaining_perm (g : Nat) (q : List CellOrder) : (gathered g q ++ remaining g q).Perm q := by
  cases q with
  | nil => exact List.Perm.refl _
  | cons head rest =>
    have h := (List.filter_append_perm (CellOrder.rides head) (rest.take (g - 1))).append_right (rest.drop (g - 1))
    rw [List.take_append_drop, List.append_assoc] at h
    exact h.cons head

theorem mem_gathered_rides {g : Nat} {head : CellOrder} {rest : List CellOrder} {o : CellOrder}
    (h : o ∈ gathered g (head :: rest)) : o.line = head.line ∧ o.kind = head.kind := by
  rcases List.mem_cons.1 h with rfl | h
  · exact ⟨rfl, rfl⟩
  · have := (List.mem_filter.1 h).2
    simpa [CellOrder.rides] using this

/-- No cell is both gathered and left. -/
theorem gathered_remaining_disjoint {q : List CellOrder} (hq : DistinctCells q) {g : Nat} {cell : Nat × Nat}
    (hg : cell ∈ (gathered g q).map CellOrder.cell) : cell ∉ (remaining g q).map CellOrder.cell := by
  have hnodup : ((gathered g q ++ remaining g q).map CellOrder.cell).Nodup :=
    ((gathered_remaining_perm g q).map CellOrder.cell).nodup_iff.2 hq
  rw [List.map_append] at hnodup
  exact fun hr => (List.nodup_append.1 hnodup).2.2 cell hg cell hr rfl

theorem kindOf_eq_light_iff {b : Bool} : decide (kindOf b = .light) = b := by cases b <;> rfl

/-- R36, R38, R86: a take keeps the law for a cell that is in service. -/
theorem Settled.taken {q : List CellOrder} (hq : DistinctCells q) {head : CellOrder} {rest : List CellOrder}
    (hhead : q = head :: rest) {n : Nat} {kept : List CellOrder} (hsub : ∀ o ∈ kept, o ∈ gathered n q)
    (hcols : ∀ o ∈ q, o.column < 512) {g : PanelGlass} {column line : Nat} {bit : Bool} (hcol : column < 512)
    (hin : ∀ o ∈ gathered n q, o.cell = (column, line) → o ∈ kept) (h : Settled q g column line bit) :
    Settled (remaining n q) (g.applyBurst head.line head.kind (kept.map (·.column))) column line bit := by
  have hperm := gathered_remaining_perm n q
  have hmem (o : CellOrder) : o ∈ q ↔ o ∈ gathered n q ∨ o ∈ remaining n q := by
    rw [← hperm.mem_iff, List.mem_append]
  by_cases hg : (column, line) ∈ (gathered n q).map CellOrder.cell
  · obtain ⟨o, ho, hc⟩ := List.mem_map.1 hg
    obtain ⟨hn, -⟩ | ⟨hm, hshow⟩ := h
    · exact absurd (List.mem_map.2 ⟨o, (hmem o).2 (.inl ho), hc⟩) (any_isAt_eq_false_iff.1 hn)
    · have heq : o = ⟨column, line, kindOf bit⟩ :=
        List.inj_on_of_nodup_map hq ((hmem o).2 (.inl ho)) hm hc
      have hrides := mem_gathered_rides (hhead ▸ ho)
      rw [heq] at hrides ho
      obtain ⟨hline, hkind⟩ := hrides
      dsimp only at hline hkind
      have hk : column ∈ kept.map (·.column) := List.mem_map.2 ⟨_, hin _ ho rfl, rfl⟩
      refine .inl ⟨any_isAt_eq_false_iff.2 (gathered_remaining_disjoint hq hg), ?_⟩
      rw [← hline, ← hkind, PanelGlass.shows_applyBurst_own (PanelGlass.shows_eq_some_iff.1 hshow).1 hk,
        kindOf_eq_light_iff]
  · have hout : ¬(line = head.line ∧ column ∈ kept.map (·.column)) := by
      rintro ⟨hl, hk⟩
      obtain ⟨o, ho, hc⟩ := List.mem_map.1 hk
      have hline := (mem_gathered_rides (hhead ▸ hsub o ho)).1
      exact hg (List.mem_map.2 ⟨o, hsub o ho, Prod.ext hc (hline.trans hl.symm)⟩)
    have hkept : ∀ c ∈ kept.map (·.column), c < 512 := by
      intro c hc
      obtain ⟨o, ho, rfl⟩ := List.mem_map.1 hc
      exact hcols o ((hmem o).2 (.inl (hsub o ho)))
    unfold Settled
    rw [PanelGlass.shows_applyBurst_other hcol hkept hout]
    obtain ⟨hn, hshow⟩ | ⟨hm, hshow⟩ := h
    · refine .inl ⟨any_isAt_eq_false_iff.2 fun hr => any_isAt_eq_false_iff.1 hn ?_, hshow⟩
      obtain ⟨o, ho, hc⟩ := List.mem_map.1 hr
      exact List.mem_map.2 ⟨o, (hmem o).2 (.inr ho), hc⟩
    · exact .inr ⟨((hmem _).1 hm).resolve_left fun hgm => hg (List.mem_map.2 ⟨_, hgm, rfl⟩), hshow⟩

end Sys2Proof.Machine
end

section
/-! PROOFS. The correspondence law (R38) is kept by every step, with the progress of the global erases (R94) and of the
wipe (R47) that bring it about. -/

namespace Sys2Proof.Machine

variable {s t u : State}

/-! ### The cell-plane bit (R33, R38) -/

/-- The working copy an item holds between its compare and the end of its write-back. -/
def RenderItem.workingCopy : RenderItem → Option (CellWord × Word)
  | .capture _ c _ (.writeBack w) => some (c, w)
  | .resweep c _ _ (.writeBack w) => some (c, w)
  | _ => none

/-- The working copy of the item in hand. -/
def State.workingCopy (s : State) : Option (CellWord × Word) := s.render.item.bind RenderItem.workingCopy

/-- The bit of a cell in DRAM. -/
def State.dramBit (s : State) (column line : Nat) : Bool :=
  cellBitOf (s.readWord (s.standing.cellAddress ⟨line, column / 16⟩)) column

theorem State.planeBit_of_copy {c : CellWord} {w : Word} (h : s.workingCopy = some (c, w)) (column line : Nat) :
    s.planeBit column line =
      if c.line = line ∧ c.index = column / 16 then cellBitOf w column else s.dramBit column line := by
  obtain ⟨i, hi, hw⟩ := Option.bind_eq_some_iff.1 h
  unfold State.planeBit
  rw [hi]
  cases i with
  | capture r d rest stage => cases stage <;> cases hw; rfl
  | resweep d got toRead stage => cases stage <;> cases hw; rfl
  | wipe a => cases hw

theorem State.planeBit_of_no_copy (h : s.workingCopy = none) (column line : Nat) :
    s.planeBit column line = s.dramBit column line := by
  unfold State.planeBit
  cases hi : s.render.item with
  | none => rfl
  | some i =>
    rw [State.workingCopy, hi] at h
    cases i with
    | capture r d rest stage =>
      cases stage with
      | freeWait | pictureRead | cellRead => rfl
      | writeBack w => cases h
    | resweep d got toRead stage =>
      cases stage with
      | freeWait | pictureRead | cellRead => rfl
      | writeBack w => cases h
    | wipe a => rfl

theorem CellWord.onPanel_of_cell {column line : Nat} (hc : column < 512) (hl : line < 512) :
    (CellWord.mk line (column / 16)).onPanel := ⟨hl, show column / 16 < 32 by omega⟩

/-- The plane bit of a cell stands when its DRAM bit and the working copy stand. -/
theorem State.planeBit_congr (hw : t.workingCopy = s.workingCopy) {column line : Nat}
    (hd : t.dramBit column line = s.dramBit column line) : t.planeBit column line = s.planeBit column line := by
  cases hcopy : s.workingCopy with
  | none => rw [State.planeBit_of_no_copy hcopy, State.planeBit_of_no_copy (hw.trans hcopy), hd]
  | some x => rw [State.planeBit_of_copy hcopy, State.planeBit_of_copy (hw.trans hcopy), hd]

theorem State.cellAddress_of_block (hb : t.standing.planeBlock = s.standing.planeBlock) (c : CellWord) :
    t.standing.cellAddress c = s.standing.cellAddress c := by
  rw [ParamSet.cellAddress, ParamSet.cellAddress, ParamSet.planeStart, ParamSet.planeStart, hb]

theorem State.dramBit_of_dram (hd : t.dram = s.dram) (he : t.dramEpoch = s.dramEpoch)
    (hb : t.standing.planeBlock = s.standing.planeBlock) (column line : Nat) :
    t.dramBit column line = s.dramBit column line := by
  unfold State.dramBit
  rw [State.cellAddress_of_block hb, State.readWord_of_dram hd he]

/-- The DRAM bits of the panel stand when the plane's words and place stand. -/
theorem State.KeepsPlane.dramBit (k : s.KeepsPlane t) (hv : s.standing.planeBlock ≤ 15)
    (hb : t.standing.planeBlock = s.standing.planeBlock) {column line : Nat} (hc : column < 512) (hl : line < 512) :
    t.dramBit column line = s.dramBit column line := by
  unfold State.dramBit
  rw [State.cellAddress_of_block hb, k _ (s.standing.cellAddress_inPlane hv (CellWord.onPanel_of_cell hc hl))]

/-! ### Items without a working copy -/

theorem State.workingCopy_of_item {i : Option RenderItem} (h : s.render.item = i) :
    s.workingCopy = i.bind RenderItem.workingCopy := by rw [State.workingCopy, h]

theorem State.beginCapture_workingCopy (s : State) (r : CaptureRecord) (c : CellWord) (rest : List CellWord) :
    (s.beginCapture r c rest).workingCopy = none := by
  rcases Nat.lt_or_ge 240 s.queue.length with hq | hq
  · rw [State.beginCapture_of_full hq]; rfl
  · rw [State.beginCapture_of_room hq]; rfl

theorem State.nextCaptureWord_workingCopy (s : State) (r : CaptureRecord) (words : List CellWord) :
    (s.nextCaptureWord r words).workingCopy = none := by
  cases words with
  | nil => rfl
  | cons c rest => exact s.beginCapture_workingCopy r c rest

theorem State.resweepRead_workingCopy (s : State) (c : CellWord) (got : List (Addr × Word)) (toRead : List Addr) :
    (s.resweepRead c got toRead).workingCopy = none := by cases toRead <;> rfl

theorem State.beginResweep_workingCopy (s : State) (c : CellWord) : (s.beginResweep c).workingCopy = none := by
  rcases Nat.lt_or_ge 240 s.queue.length with hq | hq
  · rw [State.beginResweep_of_full hq]; rfl
  · rw [State.beginResweep_of_room hq]; exact s.resweepRead_workingCopy c [] _

theorem State.cellWordDone_workingCopy (s : State) (i : RenderItem) : (s.cellWordDone i).workingCopy = none := by
  cases i with
  | capture r c rest stage => exact s.nextCaptureWord_workingCopy r rest
  | resweep c got toRead stage => rfl
  | wipe a => rfl

theorem RenderItem.workingCopy_reading {i : RenderItem} (h : i.readingCell = true) : i.workingCopy = none := by
  cases i with
  | capture r c rest stage =>
    cases stage with
    | cellRead => rfl
    | freeWait | pictureRead | writeBack => cases h
  | resweep c got toRead stage =>
    cases stage with
    | cellRead => rfl
    | freeWait | pictureRead | writeBack => cases h
  | wipe a => rfl

theorem RenderItem.workingCopy_writingBack {i : RenderItem} {c : CellWord} (h : i.cell? = some c) (w : Word) :
    (i.writingBack w).workingCopy = some (c, w) := by
  cases i with
  | capture r d rest stage => cases h; rfl
  | resweep d got toRead stage => cases h; rfl
  | wipe a => cases h

/-! ### The law with what brings it about -/

/-- The parts of `State.LawOk` that are about the law itself. -/
structure State.LawParts (s : State) : Prop where
  law : s.por = false → s.seq.panel = .lit → ∀ column line, column < 512 → line < 512 →
    s.seq.cellOut column line = false → s.Corresponds column line
  dark : s.por = false → s.seq.panel = .clearing → 0 < s.address.globalErases → s.glass = PanelGlass.erased
  erased : s.seq.panel = .clearing → s.seq.erasesDone = true → s.address.globalErases = 8
  wiped : s.por = false → s.seq.panel = .clearing → ∀ k, k < s.render.wipePosition →
    s.readWord (BitVec.ofNat 18 (s.standing.planeStart + k)) = 0
  abandoned : s.por = false → ∀ a, s.port.current = some (.render a false) →
    s.seq.panel ≠ .lit ∧ (s.seq.panel = .clearing → s.render.wipePosition = 0 ∧ s.render.item = none)

theorem State.lawOk_iff : s.LawOk ↔ s.SetsOk ∧ s.QueueOk ∧ s.RenderOk ∧ s.SequencerOk ∧ s.ReportUnitOk ∧ s.LawParts := by
  rw [State.reportUnitOk_iff]
  constructor
  · rintro ⟨h1, h2, h3, h4, h5, h6, h7, h8, h9, h10, h11⟩
    exact ⟨h1, h2, h3, h4, ⟨h5, h11⟩, ⟨h6, h7, h8, h9, h10⟩⟩
  · rintro ⟨h1, h2, h3, h4, ⟨h5, h11⟩, ⟨h6, h7, h8, h9, h10⟩⟩
    exact ⟨h1, h2, h3, h4, h5, h6, h7, h8, h9, h10, h11⟩

/-- Outside CLEARING and LIT the law says nothing. -/
theorem State.LawParts.of_unaddressed (hl : t.seq.panel ≠ .lit) (hc : t.seq.panel ≠ .clearing) : t.LawParts :=
  ⟨fun _ h => absurd h hl, fun _ h => absurd h hc, fun h => absurd h hc, fun _ h => absurd h hc,
    fun _ _ _ => ⟨hl, fun h => absurd h hc⟩⟩

/-- The beginning of CLEARING: nothing is erased, nothing is wiped. -/
theorem State.EntersClearing.lawParts (e : s.EntersClearing t) : t.LawParts := by
  refine ⟨fun _ h => ?_, fun _ _ h => ?_, fun _ h => ?_, fun _ _ k hk => ?_, fun _ _ _ => ⟨?_, fun _ => ⟨e.wipe, e.emptied.item.1⟩⟩⟩
  · exact nomatch e.panel.symm.trans h
  · rw [e.erases] at h; exact absurd h (Nat.lt_irrefl 0)
  · exact nomatch e.flags.1.symm.trans h
  · rw [e.wipe] at hk; exact absurd hk (Nat.not_lt_zero k)
  · rw [e.panel]; decide

/-- In LIT there is the law, and no abandoned access is in progress. -/
theorem State.LawParts.of_lit (hl : t.seq.panel = .lit) (hlaw : t.por = false → ∀ column line, column < 512 →
    line < 512 → t.seq.cellOut column line = false → t.Corresponds column line)
    (ha : ∀ a, t.port.current ≠ some (.render a false)) : t.LawParts :=
  ⟨fun hp _ => hlaw hp, fun _ h => (nomatch hl.symm.trans h), fun h => (nomatch hl.symm.trans h),
    fun _ h => (nomatch hl.symm.trans h), fun _ a h => absurd h (ha a)⟩

/-- Between `s` and `t` nothing moved that the law is about. -/
structure State.KeepsLaw (s t : State) : Prop where
  por : t.por = s.por
  panel : t.seq.panel = s.seq.panel
  out : t.seq.outX = s.seq.outX ∧ t.seq.outY = s.seq.outY
  queue : t.queue = s.queue
  glass : t.glass = s.glass
  bits : s.por = false → s.seq.panel = .lit → ∀ column line, column < 512 → line < 512 →
    t.planeBit column line = s.planeBit column line
  erases : t.address.globalErases = s.address.globalErases ∧ t.seq.erasesDone = s.seq.erasesDone
  position : t.render.wipePosition = s.render.wipePosition
  words : s.por = false → s.seq.panel = .clearing → ∀ k, k < s.render.wipePosition →
    t.readWord (BitVec.ofNat 18 (t.standing.planeStart + k)) = s.readWord (BitVec.ofNat 18 (s.standing.planeStart + k))
  abandoned : s.por = false → ∀ a, t.port.current = some (.render a false) →
    s.port.current = some (.render a false) ∧ (s.render.item = none → t.render.item = none)

theorem State.LawParts.of_keeps (h : s.LawParts) (k : s.KeepsLaw t) : t.LawParts := by
  obtain ⟨hx, hy⟩ := k.out
  obtain ⟨he, hd⟩ := k.erases
  refine ⟨fun hp hl column line hc hline ho => ?_, fun hp hc hpos => ?_, fun hc hdone => ?_, fun hp hc j hj => ?_,
    fun hp a ha => ?_⟩
  · rw [k.por] at hp
    rw [k.panel] at hl
    have hout : s.seq.cellOut column line = false := by rwa [Sequencer.cellOut, hx, hy] at ho
    rw [State.corresponds_iff, k.queue, k.glass, k.bits hp hl column line hc hline]
    exact h.law hp hl column line hc hline hout
  · rw [k.glass]
    exact h.dark (k.por ▸ hp) (k.panel ▸ hc) (he ▸ hpos)
  · rw [he]
    exact h.erased (k.panel ▸ hc) (hd ▸ hdone)
  · rw [k.por] at hp
    rw [k.panel] at hc
    rw [k.position] at hj
    rw [k.words hp hc j hj]
    exact h.wiped hp hc j hj
  · rw [k.por] at hp
    obtain ⟨hcur, hitem⟩ := k.abandoned hp a ha
    obtain ⟨hl, hc⟩ := h.abandoned hp a hcur
    rw [k.panel, k.position]
    exact ⟨hl, fun e => ⟨(hc e).1, hitem (hc e).2⟩⟩

/-- A step that leaves memory, the plane's place, the working copy and what else the law is about. -/
theorem State.KeepsLaw.of_dram (hd : t.dram = s.dram ∧ t.dramEpoch = s.dramEpoch)
    (hb : t.standing.planeBlock = s.standing.planeBlock) (hp : t.por = s.por)
    (hpanel : t.seq.panel = s.seq.panel) (ho : t.seq.outX = s.seq.outX ∧ t.seq.outY = s.seq.outY)
    (hq : t.queue = s.queue) (hg : t.glass = s.glass)
    (he : t.address.globalErases = s.address.globalErases ∧ t.seq.erasesDone = s.seq.erasesDone)
    (hpos : t.render.wipePosition = s.render.wipePosition) (hw : t.workingCopy = s.workingCopy)
    (ha : ∀ a, t.port.current = some (.render a false) →
      s.port.current = some (.render a false) ∧ (s.render.item = none → t.render.item = none)) : s.KeepsLaw t where
  por := hp
  panel := hpanel
  out := ho
  queue := hq
  glass := hg
  bits _ _ column line _ _ := State.planeBit_congr hw (State.dramBit_of_dram hd.1 hd.2 hb column line)
  erases := he
  position := hpos
  words _ _ j _ := by
    rw [ParamSet.planeStart, hb, ← ParamSet.planeStart]
    exact State.readWord_of_dram hd.1 hd.2 _
  abandoned _ := ha

/-- A step that leaves memory and the item as well. -/
theorem State.KeepsLaw.of_item (hd : t.dram = s.dram ∧ t.dramEpoch = s.dramEpoch)
    (hb : t.standing.planeBlock = s.standing.planeBlock) (hp : t.por = s.por)
    (hpanel : t.seq.panel = s.seq.panel) (ho : t.seq.outX = s.seq.outX ∧ t.seq.outY = s.seq.outY)
    (hq : t.queue = s.queue) (hg : t.glass = s.glass)
    (he : t.address.globalErases = s.address.globalErases ∧ t.seq.erasesDone = s.seq.erasesDone)
    (hpos : t.render.wipePosition = s.render.wipePosition) (hi : t.render.item = s.render.item)
    (ha : ∀ a, t.port.current = some (.render a false) → s.port.current = some (.render a false)) : s.KeepsLaw t :=
  .of_dram hd hb hp hpanel ho hq hg he hpos (by rw [State.workingCopy, State.workingCopy, hi])
    fun a h => ⟨ha a h, fun hn => hi.trans hn⟩

/-- The picture path and the cell plane stand. -/
theorem State.KeepsPicture.keepsLaw (k : s.KeepsPicture t) (hv : s.standing.planeBlock ≤ 15)
    (hr : s.render.wipePosition ≤ 16384) (hk : s.KeepsPlane t) : s.KeepsLaw t where
  por := k.por
  panel := by rw [k.seq]
  out := by rw [k.seq]; exact ⟨rfl, rfl⟩
  queue := k.queue
  glass := k.glass
  bits _ _ _ _ hc hl := State.planeBit_congr (by rw [State.workingCopy, State.workingCopy, k.render])
    (hk.dramBit hv (by rw [k.standing]) hc hl)
  erases := ⟨k.erases, by rw [k.seq]⟩
  position := by rw [k.render]
  words _ _ j hj := by
    rw [k.standing]
    exact hk _ (s.standing.planeAddress_inPlane hv (by omega))
  abandoned _ a ha := ⟨(k.current a false).1 ha, fun hi => by rw [k.render]; exact hi⟩

/-- The picture path and memory stand. -/
theorem State.KeepsPicture.keepsLaw_of_dram (k : s.KeepsPicture t) (hd : t.dram = s.dram ∧ t.dramEpoch = s.dramEpoch) :
    s.KeepsLaw t :=
  .of_item hd (by rw [k.standing]) k.por (by rw [k.seq]) (by rw [k.seq]; exact ⟨rfl, rfl⟩) k.queue k.glass
    ⟨k.erases, by rw [k.seq]⟩ (by rw [k.render]) (by rw [k.render]) fun a ha => (k.current a false).1 ha

theorem State.SetsOk.block (h : s.SetsOk) : s.standing.planeBlock ≤ 15 :=
  let ⟨_, _, _, hb⟩ := h.standing.other
  hb

theorem State.LawOk.parts (h : s.LawOk) : s.LawParts := ⟨h.law, h.dark, h.erased, h.wiped, h.abandoned⟩

/-! ### Commands and commits -/

/-- A command that keeps the law, with its take and its record. -/
theorem commandRow_lawParts {isMine : Byte → Bool} {act : State → State × CommandOutcome}
    (hact : ∀ {u : State}, u.LawParts → (act u).1.LawParts) (h : commandRow isMine act s = some t) (hs : s.LawParts) :
    t.LawParts :=
  commandRow_keeps (P := State.LawParts)
    (fun k o rest => k.of_keeps ((State.takeHandOver_keepsPicture _ o rest).keepsLaw_of_dram (by simp)))
    (fun k code o => k.of_keeps ((State.recordCommand_keepsPicture _ code o).keepsLaw_of_dram (by simp))) hact h hs

theorem State.LawParts.doCommit (h : s.LawParts) : s.doCommit.1.LawParts := by
  obtain e | e | ⟨-, e⟩ := s.doCommit_cases <;> rw [e]
  · exact h
  all_goals exact h.of_keeps (.of_item ⟨rfl, rfl⟩ rfl rfl rfl ⟨rfl, rfl⟩ rfl rfl ⟨rfl, rfl⟩ rfl rfl fun _ => id)

theorem State.LawParts.doRestart (h : s.LawParts) : s.doRestart.1.LawParts := by
  obtain e | ⟨-, e⟩ | ⟨-, e⟩ := s.doRestart_cases <;> rw [e]
  · exact h
  · exact .of_unaddressed (fun e => nomatch e) (fun e => nomatch e)
  · exact s.softRestart_restarts.entry.lawParts

theorem State.LawParts.doStop (h : s.LawParts) : s.doStop.1.LawParts := by
  obtain e | e := s.doStop_cases <;> rw [e]
  · exact h
  · exact .of_unaddressed (fun e => nomatch e) (fun e => nomatch e)

theorem State.LawParts.doClearFaults (h : s.LawParts) : s.doClearFaults.1.LawParts := by
  obtain ⟨f, ⟨hd, e⟩ | e⟩ := s.doClearFaults_cases <;> rw [e]
  · exact .of_unaddressed (fun e => nomatch hd.symm.trans e) (fun e => nomatch hd.symm.trans e)
  · exact h.of_keeps (.of_item ⟨rfl, rfl⟩ rfl rfl rfl ⟨rfl, rfl⟩ rfl rfl ⟨rfl, rfl⟩ rfl rfl fun _ => id)

/-- R143: a commit that moves the plane in CLEARING or LIT begins CLEARING again; any other leaves the law. -/
theorem State.LawParts.commitApply (h : s.LawParts) (hr : rowCommitApply s = some t) : t.LawParts := by
  obtain ⟨new, -, -, ⟨-, -, rfl⟩ | ⟨hn, rfl⟩⟩ := rowCommitApply_cases hr
  · exact (State.softRestart_restarts _).entry.lawParts
  · by_cases ha : s.seq.panel.addressed = true
    · have hb : new.planeBlock = s.standing.planeBlock := by
        by_contra hne
        exact hn ⟨fun e => hne e.symm, ha⟩
      exact h.of_keeps (.of_item ⟨rfl, rfl⟩ hb rfl rfl ⟨rfl, rfl⟩ rfl rfl ⟨rfl, rfl⟩ rfl rfl fun _ => id)
    · exact .of_unaddressed (fun e => ha (by rw [show s.seq.panel = .lit from e]; rfl))
        (fun e => ha (by rw [show s.seq.panel = .clearing from e]; rfl))

/-! ### Items that begin or go on -/

theorem MemoryPort.not_rendering {p : MemoryPort} (h : p.rendering = false) (a : RenderAccess) (o : Bool) :
    p.current ≠ some (.render a o) := by
  intro e
  unfold MemoryPort.rendering at h
  rw [e] at h
  cases h

/-- A cell word begins or goes on, in LIT, with no working copy before and after. -/
theorem State.LawParts.of_reading (h : s.LawParts) (hd : t.dram = s.dram ∧ t.dramEpoch = s.dramEpoch)
    (hst : t.standing = s.standing) (hp : t.por = s.por) (hseq : t.seq = s.seq) (hq : t.queue = s.queue)
    (hg : t.glass = s.glass) (he : t.address = s.address) (hpos : t.render.wipePosition = s.render.wipePosition)
    (hs : s.workingCopy = none) (ht : t.workingCopy = none) (ha : ∀ a, t.port.current ≠ some (.render a false)) :
    t.LawParts :=
  h.of_keeps (.of_dram hd (by rw [hst]) hp (by rw [hseq]) (by rw [hseq]; exact ⟨rfl, rfl⟩) hq hg
    (by rw [he, hseq]; exact ⟨rfl, rfl⟩) hpos (ht.trans hs.symm) fun a e => absurd e (ha a))

theorem State.workingCopy_none (h : s.render.item = none) : s.workingCopy = none := by rw [State.workingCopy, h]; rfl

/-- In LIT no abandoned access is in progress. -/
theorem State.LawParts.not_abandoned (h : s.LawParts) (hp : s.por = false) (hl : s.seq.panel = .lit) (a : RenderAccess) :
    s.port.current ≠ some (.render a false) := fun e => (h.abandoned hp a e).1 hl

theorem State.LawParts.captureItem (h : s.LawParts) (hr : rowCaptureItem s = some t) : t.LawParts := by
  obtain ⟨r, rest, -, -, hch, rfl⟩ := rowCaptureItem_cases hr
  obtain ⟨hi, -, hn⟩ := State.canChoose_iff.1 hch
  exact h.of_reading (by simp [State.captureTaken]) (by simp [State.captureTaken]) (by simp [State.captureTaken])
    (by simp [State.captureTaken]) (by simp [State.captureTaken]) (by simp [State.captureTaken])
    (by simp [State.captureTaken]) (by simp [State.captureTaken]) (State.workingCopy_none hi)
    (State.nextCaptureWord_workingCopy _ _ _) (fun a => by simpa [State.captureTaken] using s.port.not_rendering hn a false)

theorem State.LawParts.resweepItem (h : s.LawParts) (hr : rowResweepItem s = some t) : t.LawParts := by
  obtain ⟨c, -, -, hch, rfl⟩ := rowResweepItem_cases hr
  obtain ⟨hi, -, hn⟩ := State.canChoose_iff.1 hch
  exact h.of_reading (by simp [State.resweepTaken]) (by simp [State.resweepTaken]) (by simp [State.resweepTaken])
    (by simp [State.resweepTaken]) (by simp [State.resweepTaken]) (by simp [State.resweepTaken])
    (by simp [State.resweepTaken]) (by simp [State.resweepTaken]) (State.workingCopy_none hi)
    (State.beginResweep_workingCopy _ _) (fun a => by simpa [State.resweepTaken] using s.port.not_rendering hn a false)

theorem State.LawParts.wipeItem (h : s.LawParts) (hr : rowWipeItem s = some t) : t.LawParts := by
  obtain ⟨-, hch, -, rfl⟩ := rowWipeItem_cases hr
  obtain ⟨hi, -, hn⟩ := State.canChoose_iff.1 hch
  exact h.of_reading ⟨rfl, rfl⟩ rfl rfl rfl rfl rfl rfl rfl (State.workingCopy_none hi) rfl
    (fun a => s.port.not_rendering hn a false)

theorem State.LawParts.freeEntryWaitEnd (h : s.LawParts) (hp : s.por = false) (hk : s.RenderOk)
    (hr : rowFreeEntryWaitEnd s = some t) : t.LawParts := by
  obtain ⟨-, ⟨r, c, rest, hi, rfl⟩ | ⟨c, got, toRead, hi, rfl⟩⟩ := rowFreeEntryWaitEnd_cases hr
  · exact h.of_reading (by simp) (by simp) (by simp) (by simp) (by simp) (by simp) (by simp) (by simp)
      (State.workingCopy_of_item hi) (State.beginCapture_workingCopy _ _ _ _)
      (fun a => by simpa using h.not_abandoned hp (hk.home hi) a)
  · exact h.of_reading (by simp) (by simp) (by simp) (by simp) (by simp) (by simp) (by simp) (by simp)
      (State.workingCopy_of_item hi) (State.resweepRead_workingCopy _ _ _ _)
      (fun a => by simpa using h.not_abandoned hp (hk.home hi) a)

/-- The end of a grant whose completion moves nothing. -/
theorem State.LawParts.endGrant (h : s.LawParts) : s.endGrant.LawParts :=
  h.of_keeps (.of_item ⟨rfl, rfl⟩ rfl rfl rfl ⟨rfl, rfl⟩ rfl rfl ⟨rfl, rfl⟩ rfl rfl fun _ e => nomatch e)

theorem State.LawParts.pictureReadDone (h : s.LawParts) (hr : rowPictureReadDone s = some t) : t.LawParts := by
  obtain ⟨a, ⟨-, rfl⟩ | ⟨-, c, got, b, more, hi, rfl⟩⟩ := rowPictureReadDone_cases hr
  · exact h.endGrant
  · exact h.of_reading (by simp) (by simp) (by simp) (by simp) (by simp) (by simp) (by simp) (by simp)
      (State.workingCopy_of_item hi) (State.resweepRead_workingCopy _ _ _ _) (fun a => by simp)

/-! ### The comparison and the write-back (R33, R43) -/

theorem State.compareCell_queue (s : State) (i : RenderItem) (c : CellWord) (a : Addr) (w : Word) :
    (s.compareCell i c a w).queue = (compareTargets c.line (i.targets s.standing) s.queue w).1 := by
  by_cases hw : (compareTargets c.line (i.targets s.standing) s.queue w).2 = w
  · rw [State.compareCell_unchanged hw]; simp
  · rw [State.compareCell_changed hw]; simp

/-- After a comparison the word's own bits are the working copy's, and the other bits stand. -/
theorem State.compareCell_planeBit {i : RenderItem} {c : CellWord} (hcell : i.cell? = some c) {w : Word}
    (hs : s.workingCopy = none) (hw : s.readWord (s.standing.cellAddress c) = w) (a : Addr) (column line : Nat) :
    (s.compareCell i c a w).planeBit column line = if c.line = line ∧ c.index = column / 16 then
      cellBitOf (compareTargets c.line (i.targets s.standing) s.queue w).2 column else s.planeBit column line := by
  have hdram : (s.compareCell i c a w).dramBit column line = s.dramBit column line :=
    State.dramBit_of_dram (by simp) (by simp) (by simp) column line
  by_cases hsame : (compareTargets c.line (i.targets s.standing) s.queue w).2 = w
  · have hcopy : (s.compareCell i c a w).workingCopy = none := by
      rw [State.compareCell_unchanged hsame]
      exact State.cellWordDone_workingCopy _ i
    rw [State.planeBit_of_no_copy hcopy, hdram, State.planeBit_of_no_copy hs, hsame]
    split
    · rename_i hown
      obtain ⟨rfl, hidx⟩ := hown
      rw [State.dramBit, ← hidx, hw]
    · rfl
  · have hcopy : (s.compareCell i c a w).workingCopy =
        some (c, (compareTargets c.line (i.targets s.standing) s.queue w).2) := by
      rw [State.compareCell_changed hsame]
      exact RenderItem.workingCopy_writingBack hcell _
    rw [State.planeBit_of_copy hcopy, hdram, State.planeBit_of_no_copy hs]

/-- R38, R43: a comparison keeps the law. -/
theorem State.LawOk.compareCell (h : s.LawOk) (hp : s.por = false) {a : Addr}
    (hc : s.port.current = some (.render (.readCell a) true)) {i : RenderItem} {c : CellWord}
    (hi : s.render.item = some i) (hr : i.readingCell = true) (hcell : i.cell? = some c) :
    (s.endGrant.compareCell i c a (s.readWord a)).LawParts := by
  obtain ⟨-, j, hj, haj⟩ := h.render.owned hp hc
  cases hi.symm.trans hj
  obtain ⟨hread, hhome⟩ := RenderItem.access?_reading (p := s.standing) hr hcell
  cases hread.symm.trans haj
  have hlit : s.seq.panel = .lit := (h.render.home hi).trans hhome
  have hcopy : s.workingCopy = none := (State.workingCopy_of_item hi).trans (RenderItem.workingCopy_reading hr)
  refine .of_lit (by simpa using hlit) (fun _ column line hcol hline ho => ?_) (fun a => by simp)
  have hs : Settled s.queue s.glass column line (s.planeBit column line) :=
    h.law hp hlit column line hcol hline (by simpa using ho)
  have hbits := State.compareCell_planeBit (s := s.endGrant) hcell hcopy rfl (s.standing.cellAddress c) column line
  have hglass : (s.endGrant.compareCell i c (s.standing.cellAddress c)
    (s.readWord (s.standing.cellAddress c))).glass = s.glass := by simp
  rw [State.corresponds_iff, State.compareCell_queue, hglass]
  refine (congrArg (Settled _ s.glass column line) hbits).mpr ?_
  split
  · rename_i hown
    obtain ⟨rfl, hidx⟩ := hown
    have hbit : s.planeBit column c.line = cellBitOf (s.readWord (s.standing.cellAddress c)) column := by
      rw [State.planeBit_of_no_copy hcopy, State.dramBit, ← hidx]
    exact Settled.compared_own (fun x hx => RenderItem.mem_targets hcell hx) h.queue.distinct hidx.symm (hbit ▸ hs)
  · rename_i hown
    refine Settled.compared_other (fun x hx e => hown ⟨e.2, ?_⟩) hs
    rw [← RenderItem.mem_targets hcell hx, e.1]

/-- R46: an abandoned write lands outside LIT, before the wipe has begun. -/
theorem State.LawParts.abandonedWrite (h : s.LawParts) (hp : s.por = false) {x : RenderAccess}
    (hc : s.port.current = some (.render x false)) (a : Addr) (w : Word) : (s.endGrant.writeWord a .both w).LawParts := by
  obtain ⟨hl, hw⟩ := h.abandoned hp x hc
  refine ⟨fun _ e => absurd e hl, h.dark, h.erased, fun _ e k hk => ?_, fun _ _ e => nomatch e⟩
  have hk : k < s.render.wipePosition := hk
  rw [(hw e).1] at hk
  exact absurd hk (Nat.not_lt_zero k)

/-- Once the working copy is in DRAM the plane bits are those of DRAM. -/
theorem State.dramBit_writeBack (hv : s.standing.planeBlock ≤ 15) {c : CellWord} {w : Word}
    (hcopy : s.workingCopy = some (c, w)) (hcell : c.onPanel) (hd : t.dram = (s.writeWord (s.standing.cellAddress c) .both w).dram)
    (he : t.dramEpoch = s.dramEpoch) (hb : t.standing.planeBlock = s.standing.planeBlock) {column line : Nat}
    (hcol : column < 512) (hline : line < 512) : t.dramBit column line = s.planeBit column line := by
  have hpanel := CellWord.onPanel_of_cell hcol hline
  rw [State.planeBit_of_copy hcopy, State.dramBit, State.cellAddress_of_block hb,
    State.readWord_of_dram (s := s.writeWord (s.standing.cellAddress c) .both w) hd he]
  by_cases hown : c.line = line ∧ c.index = column / 16
  · have hcl : c = ⟨line, column / 16⟩ := by
      obtain ⟨l, j⟩ := c
      obtain ⟨rfl, rfl⟩ := hown
      rfl
    rw [if_pos hown, ← hcl, State.readWord_writeWord_same]
  · have hne : s.standing.cellAddress ⟨line, column / 16⟩ ≠ s.standing.cellAddress c := by
      rw [Ne, s.standing.cellAddress_inj hv hpanel hcell]
      rintro rfl
      exact hown ⟨rfl, rfl⟩
    rw [if_neg hown, s.readWord_writeWord_other .both w hne, State.dramBit]

theorem RenderItem.Fits.cell {i : RenderItem} {n : Nat} (h : i.Fits n) {c : CellWord} (hc : i.cell? = some c) :
    c.onPanel := by
  cases i with
  | capture r d rest stage => cases hc; exact h.1
  | resweep d got toRead stage => cases hc; exact h.1
  | wipe a => cases hc

/-- R33, R38: the end of a write-back keeps every plane bit. -/
theorem State.LawOk.writeBack (h : s.LawOk) (hp : s.por = false) {a : Addr} {w : Word}
    (hc : s.port.current = some (.render (.writeBack a w) true)) {i : RenderItem} (hi : s.render.item = some i) :
    ((s.endGrant.writeWord a .both w).cellWordDone i).LawParts := by
  obtain ⟨-, j, hj, haj⟩ := h.render.owned hp hc
  cases hi.symm.trans hj
  obtain ⟨c, hcell, rfl, hwb, hhome⟩ := RenderItem.of_access?_writeBack haj
  have hlit : s.seq.panel = .lit := (h.render.home hi).trans hhome
  have hcopy : s.workingCopy = some (c, w) := by
    rw [State.workingCopy_of_item hi, hwb]
    exact RenderItem.workingCopy_writingBack hcell w
  have hdone := State.cellWordDone_workingCopy (s.endGrant.writeWord (s.standing.cellAddress c) .both w) i
  refine h.parts.of_keeps ⟨by simp, by simp, by simp, by simp, by simp, fun _ _ column line hcol hline => ?_, by simp,
    by simp, fun _ hn => (nomatch hlit.symm.trans hn), fun _ a ha => ?_⟩
  · rw [State.planeBit_of_no_copy hdone]
    exact State.dramBit_writeBack h.sets.block hcopy ((h.queue.item i hi).cell hcell) (by simp [State.writeWord]) (by simp)
      (by simp) hcol hline
  · simp at ha

/-! ### The wipe, the global erases and the entry to LIT (R47, R94, R99) -/

/-- The entry to LIT of a dark glass and a wiped plane brings the law about. -/
theorem State.LawParts.enterLit (hq : s.queue = []) (hi : s.render.item = none) (hg : s.glass = PanelGlass.erased)
    (hw : s.por = false → ∀ k, k < 16384 → s.readWord (BitVec.ofNat 18 (s.standing.planeStart + k)) = 0)
    (ha : ∀ a, s.port.current ≠ some (.render a false)) : s.enterLit.LawParts := by
  refine .of_lit rfl (fun hp column line hcol hline _ => ?_) ha
  have hcopy : s.enterLit.workingCopy = none := State.workingCopy_none (by simpa using hi)
  have hbit : s.enterLit.planeBit column line = false := by
    rw [State.planeBit_of_no_copy hcopy, State.dramBit_of_dram (s := s) (by simp) (by simp) (by simp), State.dramBit,
      ParamSet.cellAddress_eq, hw hp _ (CellWord.place_lt (CellWord.onPanel_of_cell hcol hline))]
    simp [cellBitOf]
  rw [State.corresponds_iff, hbit]
  exact .inl ⟨by simp [hq], by simp [hg, PanelGlass.erased_shows]⟩

/-- R47: the wipe write of the item in hand zeroes the word at the wipe position. -/
theorem State.LawOk.wipeWritten (h : s.LawOk) (hp : s.por = false) {a : Addr}
    (hc : s.port.current = some (.render (.wipe a) true)) : (s.wipeWritten a).LawParts := by
  obtain ⟨-, hpanel, rfl, hlt, -⟩ := h.render.wiping hp hc
  refine ⟨fun _ e => (nomatch hpanel.symm.trans e), h.dark, h.erased, fun _ _ k hk => ?_, fun _ _ e => nomatch e⟩
  change k < s.render.wipePosition + 1 at hk
  change (s.endGrant.writeWord s.wipeAddress .both 0).readWord (BitVec.ofNat 18 (s.standing.planeStart + k)) = 0
  by_cases hk' : k = s.render.wipePosition
  · subst hk'
    exact State.readWord_writeWord_same s.endGrant s.wipeAddress 0
  · rw [State.readWord_writeWord_other]
    · exact h.wiped hp hpanel k (by omega)
    · rw [Ne, State.wipeAddress, ParamSet.planeAddress_inj h.sets.block (by omega) hlt]
      exact hk'

/-- R99: after the last wipe write LIT is entered when the erases are done. -/
theorem State.LawOk.noteWipe (h : s.LawOk) (hp : s.por = false) {a : Addr}
    (hc : s.port.current = some (.render (.wipe a) true)) (hpos : 16384 ≤ s.render.wipePosition + 1) :
    (s.wipeWritten a).noteWipe.LawParts := by
  have hw := h.wipeWritten hp hc
  obtain ⟨-, hpanel, rfl, hlt, -⟩ := h.render.wiping hp hc
  obtain ⟨-, e⟩ | ⟨-, -, e⟩ | ⟨-, hd, e⟩ := (s.wipeWritten s.wipeAddress).noteWipe_cases <;> rw [e]
  · exact hw
  · exact ⟨hw.law, hw.dark, hw.erased, hw.wiped, hw.abandoned⟩
  · have herases : s.address.globalErases = 8 := h.erased hpanel hd
    refine .enterLit (h.queue.outside (by rw [hpanel]; decide)) rfl (h.dark hp hpanel (by omega)) (fun _ k hk => ?_)
      (fun _ e => nomatch e)
    exact hw.wiped hp hpanel k (show k < s.render.wipePosition + 1 by omega)

/-- R94, R99: a global erase darkens the glass; the eighth may bring LIT about. -/
theorem State.LawOk.globalErase (h : s.LawOk) (hp : s.por = false) (hpanel : s.seq.panel = .clearing)
    (hlt : s.address.globalErases < 8) : s.globalErase.LawParts := by
  have hnot : s.seq.erasesDone ≠ true := fun e => by have := h.erased hpanel e; omega
  have he : s.erasing.LawParts :=
    ⟨fun _ e => (nomatch hpanel.symm.trans e), fun _ _ _ => rfl, fun _ e => absurd e hnot, h.wiped, h.abandoned⟩
  obtain ⟨-, e⟩ | ⟨h8, e⟩ := s.globalErase_cases <;> rw [e]
  · exact he
  · obtain ⟨-, e⟩ | ⟨-, -, e⟩ | ⟨-, hd, e⟩ := s.erasing.noteErases_cases <;> rw [e]
    · exact he
    · exact ⟨he.law, he.dark, fun _ _ => h8, he.wiped, he.abandoned⟩
    · have hpos : s.render.wipePosition = 16384 := h.render.done hpanel hd
      refine .enterLit (h.queue.outside (by rw [hpanel]; decide)) (h.render.no_item_of_wipeDone hpanel hd) rfl
        (fun _ k hk => h.wiped hp hpanel k (by omega)) (fun a ha => ?_)
      have := ((h.abandoned hp a ha).2 hpanel).1
      omega

/-- R36, R86: a take keeps the law. -/
theorem State.LawOk.takeBurst (h : s.LawOk) (hp : s.por = false) (hl : s.seq.panel = .lit) {head : CellOrder}
    {rest : List CellOrder} (hq : s.queue = head :: rest) : (s.takeBurst head).LawParts := by
  refine .of_lit hl (fun _ column line hcol hline ho => ?_) (fun a => h.parts.not_abandoned hp hl a)
  have hbit : (s.takeBurst head).planeBit column line = s.planeBit column line :=
    State.planeBit_congr rfl (State.dramBit_of_dram rfl rfl rfl column line)
  have hs := h.law hp hl column line hcol hline ho
  rw [State.corresponds_iff] at hs ⊢
  rw [hbit]
  refine hs.taken (kept := s.inService (gathered s.standing.gatherWindow s.queue)) h.queue.distinct hq
    (fun o hk => (List.mem_filter.1 hk).1) (fun o hm => (h.queue.cells o hm).1) hcol (fun o hg hc => ?_)
  obtain ⟨rfl, rfl⟩ : o.column = column ∧ o.line = line := ⟨congrArg Prod.fst hc, congrArg Prod.snd hc⟩
  exact List.mem_filter.2 ⟨hg, by rw [show s.seq.cellOut o.column o.line = false from ho]; rfl⟩

theorem State.LawOk.openCycle (h : s.LawOk) : s.openCycle.LawOk :=
  ⟨h.sets.of_same rfl rfl rfl, h.queue.of_same rfl rfl ⟨rfl, rfl⟩ rfl,
    h.render.of_same rfl rfl rfl rfl h.render.count rfl rfl rfl rfl, h.sequencer.of_seq rfl,
    ⟨h.report.image, h.report.waiting, h.report.writing, h.report.once, h.report.due⟩, h.law, h.dark, h.erased, h.wiped,
    h.abandoned, h.block⟩

theorem State.LawOk.slot (h : s.LawOk) (hp : s.por = false) : s.openCycle.slot.LawParts := by
  have ho := h.openCycle
  obtain e | ⟨hc, hlt, e⟩ | ⟨head, rest, hl, hq, e⟩ := s.openCycle.slot_cases <;> rw [e]
  · exact ho.parts
  · exact ho.globalErase hp hc hlt
  · exact ho.takeBurst hp hl hq

/-! ### The rows -/

theorem State.Faults.lawParts (h : s.Faults t) : t.LawParts := by
  obtain ⟨-, q, k, -, rfl⟩ := h
  refine .of_unaddressed ?_ ?_ <;>
    rcases State.recover_panel (({ s with seq := q } : State).enterFault k) with e | e <;> rw [e] <;> decide

/-- A decision grants no abandoned access. -/
theorem rowGrantDecision_not_abandoned (h : rowGrantDecision s = some t) (a : RenderAccess) :
    t.port.current ≠ some (.render a false) := by
  obtain ⟨hc, q, rfl, ⟨-, -, rfl⟩ | ⟨g, hg, hq⟩⟩ := rowGrantDecision_cases h
  · simp [hc]
  · have hw : q.current = g.current := by rcases hq with rfl | rfl <;> rfl
    dsimp only
    rw [hw]
    rcases (s.port.mem_candidates g).1 hg with ⟨-, rfl⟩ | ⟨-, rfl⟩ | ⟨r, -, rfl⟩ | ⟨b, -, rfl⟩ | ⟨b, -, rfl⟩
    · exact fun e => nomatch e
    · exact fun e => nomatch e
    · cases r <;> exact fun e => nomatch e
    · exact fun e => nomatch e
    · exact fun e => nomatch e

theorem PictureRow.lawParts {row : State → Option State} (hr : PictureRow row) (hp : s.por = false) (hs : s.LawOk)
    (h : row s = some t) : t.LawParts := by
  have hparts := hs.parts
  cases hr
  case commit => exact commandRow_lawParts (fun k => k.doCommit) h hparts
  case restartPanel => exact commandRow_lawParts (fun k => k.doRestart) h hparts
  case stopPanel => exact commandRow_lawParts (fun k => k.doStop) h hparts
  case clearFaults => exact commandRow_lawParts (fun k => k.doClearFaults) h hparts
  case commitApply => exact hparts.commitApply h
  case captureItem => exact hparts.captureItem h
  case resweepItem => exact hparts.resweepItem h
  case wipeItem => exact hparts.wipeItem h
  case freeEntryWaitEnd => exact hparts.freeEntryWaitEnd hp hs.render h
  case pictureReadDone => exact hparts.pictureReadDone h
  case cellWordReadDone =>
    obtain ⟨a, ⟨-, rfl⟩ | ⟨hc, i, c, hi, hr, hcell, rfl⟩⟩ := rowCellWordReadDone_cases h
    · exact hparts.endGrant
    · exact hs.compareCell hp hc hi hr hcell
  case writeBackDone =>
    obtain ⟨a, w, ⟨hc, rfl⟩ | ⟨hc, i, hi, rfl⟩⟩ := rowWriteBackDone_cases h
    · exact hparts.abandonedWrite hp hc a w
    · exact hs.writeBack hp hc hi
  case wipeWriteDone =>
    obtain ⟨a, ⟨hc, rfl⟩ | ⟨hc, ⟨-, rfl⟩ | ⟨hpos, rfl⟩⟩⟩ := rowWipeWriteDone_cases h
    · exact hparts.abandonedWrite hp hc a 0
    · exact hs.wipeWritten hp hc
    · exact hs.noteWipe hp hc hpos
  case sustainCycleStart =>
    obtain ⟨-, rfl⟩ := rowSustainCycleStart_cases h
    exact hs.slot hp
  case hvokSeen =>
    obtain ⟨-, rfl⟩ := rowHvokSeen_cases h
    exact s.enterClearing_enters.lawParts
  case hvokLost => exact (rowHvokLost_cases h).lawParts
  case hvocSeen => exact (rowHvocSeen_cases h).lawParts
  case groupStrike => exact (rowGroupStrike_cases h).lawParts
  case chargeTimeout => exact (rowChargeTimeout_cases h).lawParts
  case restEnd =>
    obtain ⟨-, ⟨-, rfl⟩ | ⟨-, rfl⟩⟩ := rowRestEnd_cases h <;>
      exact .of_unaddressed (fun e => nomatch e) (fun e => nomatch e)
  case litDurationExpiry =>
    obtain ⟨-, rfl⟩ := rowLitDurationExpiry_cases h
    exact hparts.of_keeps (.of_item ⟨rfl, rfl⟩ rfl rfl rfl ⟨rfl, rfl⟩ rfl rfl ⟨rfl, rfl⟩ rfl rfl fun _ => id)
  case grantDecision =>
    have hn := rowGrantDecision_not_abandoned h
    obtain ⟨-, q, rfl, -⟩ := rowGrantDecision_cases h
    exact hparts.of_keeps (.of_item ⟨rfl, rfl⟩ rfl rfl rfl ⟨rfl, rfl⟩ rfl rfl ⟨rfl, rfl⟩ rfl rfl
      fun a e => absurd e (hn a))

theorem PinRow.lawParts {row : State → Option State} (hr : PinRow row) (hs : s.LawOk) (h : row s = some t) :
    t.LawParts := by
  have hparts := hs.parts
  cases hr
  case porAssert =>
    obtain ⟨-, rfl⟩ := rowPorAssert_cases h
    exact ⟨(fun e => nomatch e), (fun e => nomatch e), hs.erased, (fun e => nomatch e), fun e => nomatch e⟩
  case porEnd =>
    obtain ⟨-, rfl⟩ := rowPorEnd_cases h
    exact .of_unaddressed (fun e => nomatch e) (fun e => nomatch e)
  case sysclr =>
    obtain ⟨-, rfl⟩ | ⟨-, rfl⟩ := rowSysclr_cases h
    · exact hparts.of_keeps (.of_item ⟨rfl, rfl⟩ rfl rfl rfl ⟨rfl, rfl⟩ rfl rfl ⟨rfl, rfl⟩ rfl rfl fun _ => id)
    · exact .of_unaddressed (fun e => nomatch e) (fun e => nomatch e)
  case sysclrNegate =>
    rw [rowSysclrNegate_cases h]
    exact hparts.of_keeps (.of_item ⟨rfl, rfl⟩ rfl rfl rfl ⟨rfl, rfl⟩ rfl rfl ⟨rfl, rfl⟩ rfl rfl fun _ => id)
  case busRead =>
    refine hparts.of_keeps ((rowBusRead_keepsPicture h).keepsLaw_of_dram ?_)
    obtain ⟨-, rfl | ⟨-, rfl⟩⟩ := rowBusRead_cases h <;> simp
  case busWrite =>
    refine hparts.of_keeps ((rowBusWrite_keepsPicture h).keepsLaw_of_dram ?_)
    obtain ⟨-, rfl | ⟨-, rfl⟩⟩ := rowBusWrite_cases h <;> simp
  case faultInputChange =>
    obtain ⟨_, _, _, _, _, _, _, _, rfl⟩ := rowFaultInputChange_cases h
    exact hparts.of_keeps (.of_item ⟨rfl, rfl⟩ rfl rfl rfl ⟨rfl, rfl⟩ rfl rfl ⟨rfl, rfl⟩ rfl rfl fun _ => id)

/-- A row of the blocks: of the picture path, or one that leaves the picture path and the cell plane alone. -/
theorem InnerRow.lawParts {row : State → Option State} (hr : InnerRow row) (hp : s.por = false) (hs : s.LawOk)
    (h : row s = some t) : t.LawParts := by
  obtain hpic | k := hr.picture h
  · exact hpic.lawParts hp hs h
  · obtain hpic | hk := hr.plane hs.sets.standing (State.reportUnitOk_iff.2 ⟨hs.report, hs.block⟩) h
    · exact hpic.lawParts hp hs h
    · exact hs.parts.of_keeps (k.keepsLaw hs.sets.block hs.render.position hk)

/-- R38: every row keeps the correspondence law. -/
theorem lawOk_kept : KeptByRows State.LawOk where
  pin hr hs h := by
    obtain ⟨h1, h2, h3, h4, h5, -⟩ := State.lawOk_iff.1 hs
    exact State.lawOk_iff.2 ⟨hr.setsOk h1 h, hr.queueOk h2 h, hr.renderOk h3 h, hr.sequencerOk h4 h, hr.unitOk h5 h,
      hr.lawParts hs h⟩
  inner hr hp hs h := by
    obtain ⟨h1, h2, h3, h4, h5, -⟩ := State.lawOk_iff.1 hs
    exact State.lawOk_iff.2 ⟨setsOk_kept.inner hr hp h1 h, queueOk_kept.inner hr hp h2 h, renderOk_kept.inner hr hp h3 h,
      sequencerOk_kept.inner hr hp h4 h, reportUnitOk_kept.inner hr hp h5 h, hr.lawParts hp hs h⟩
  after hs := by
    obtain ⟨h1, h2, h3, h4, h5, h6⟩ := State.lawOk_iff.1 hs
    exact State.lawOk_iff.2 ⟨setsOk_kept.after h1, queueOk_kept.after h2, renderOk_kept.after h3,
      sequencerOk_kept.after h4, reportUnitOk_kept.after h5, h6.of_keeps (.of_item (by simp) (by simp) (by simp)
        (by simp) (by simp) (by simp) (by simp) (by simp) (by simp) (by simp) (by simp))⟩
  pending hs := by
    obtain ⟨h1, h2, h3, h4, h5, h6⟩ := State.lawOk_iff.1 hs
    exact State.lawOk_iff.2 ⟨setsOk_kept.pending h1, queueOk_kept.pending h2, renderOk_kept.pending h3,
      sequencerOk_kept.pending h4, reportUnitOk_kept.pending h5, h6.of_keeps (.of_item ⟨rfl, rfl⟩ rfl rfl rfl
        ⟨rfl, rfl⟩ rfl rfl ⟨rfl, rfl⟩ rfl rfl fun _ => id)⟩

/-- Settles O60: the law with the erases and the wipe that bring it about is kept by every row. -/
theorem everyStepKeepsTheCorrespondenceLaw : Obligations.EveryStepKeepsTheCorrespondenceLaw :=
  fun _ _ hs h => step_keeps lawOk_kept h hs

end Sys2Proof.Machine
end

section
/-! PROOFS. What every event ends with, and the causes: the conditions of QUIET, the idle count, and the entry of a cause
(R40, R150–R153). -/

namespace Sys2Proof.Machine

variable {s t : State}

/-! ### The conditions of QUIET (R151) -/

theorem StaleSet.isEmpty_iff {x : StaleSet} : x.isEmpty = true ↔ x.posWord = 0 ∧ ∀ l : Fin 512, x.lines[l].stale = false := by
  simp only [StaleSet.isEmpty, Bool.and_eq_true, decide_eq_true_eq, List.all_eq_true, Vector.mem_toList_iff,
    Bool.not_eq_true']
  refine and_congr_right fun _ => ⟨fun h l => h _ (Vector.getElem_mem l.isLt), fun h y hy => ?_⟩
  obtain ⟨i, hi, rfl⟩ := Vector.mem_iff_getElem.1 hy
  exact h ⟨i, hi⟩

theorem State.quietHolds_iff : s.quietHolds = true ↔ s.AllQuiet := by
  simp only [State.quietHolds, Bool.and_eq_true, decide_eq_true_eq, List.isEmpty_iff, Option.isNone_iff_eq_none,
    StaleSet.isEmpty_iff]
  constructor
  · rintro ⟨⟨⟨⟨⟨⟨⟨hl, ha⟩, hr⟩, hv⟩, hw, hf⟩, hq⟩, hi⟩, hc⟩
    exact ⟨hl, ha, hr, hv, hw, hf, hq, hi, hc⟩
  · intro h
    exact ⟨⟨⟨⟨⟨⟨⟨h.lit, h.armed⟩, h.records⟩, h.reservations⟩, h.noLineInHand, h.noFlag⟩, h.queue⟩, h.item⟩, h.commit⟩

/-! ### The close of an event (R40, R151) -/

theorem State.idleCount_eq (s : State) : s.idleCount = { s with render := { s.render with captureCount :=
    if s.seq.panel = .lit ∧ s.render.item = none ∧ s.control.checked = none ∧ s.capture.records = [] ∧
      s.stale.offer = none then 0 else s.render.captureCount } } := by
  unfold State.idleCount
  split <;> rfl

/-- The idle count is no condition of QUIET. -/
theorem State.idleCount_quietHolds (s : State) : s.idleCount.quietHolds = s.quietHolds := by
  rw [State.idleCount_eq]; rfl

theorem State.afterEvent_of_allQuiet (hp : s.por = false) (h : s.AllQuiet) : s.afterEvent =
    ({ s.idleCount with report := { s.idleCount.report with quietArmed := false } } : State).enterCause .quiet := by
  have hq : s.idleCount.quietHolds = true := s.idleCount_quietHolds.trans (State.quietHolds_iff.2 h)
  simp only [State.afterEvent, hp, Bool.false_eq_true, if_false, State.quietCheck, if_pos hq]

theorem State.afterEvent_of_not_allQuiet (hp : s.por = false) (h : ¬s.AllQuiet) : s.afterEvent = s.idleCount := by
  have hq : ¬s.idleCount.quietHolds = true := by
    rw [State.idleCount_quietHolds, State.quietHolds_iff]; exact h
  simp only [State.afterEvent, hp, Bool.false_eq_true, if_false, State.quietCheck, if_neg hq]

/-- Outside LIT an event ends with the state it made. -/
theorem State.afterEvent_of_not_lit (h : s.seq.panel ≠ .lit) : s.afterEvent = s := by
  cases hp : s.por with
  | true => simp only [State.afterEvent, hp, if_true]
  | false =>
    rw [State.afterEvent_of_not_allQuiet hp fun hq => h hq.lit, State.idleCount, if_neg fun hc => h hc.1]

/-! ### Causes (R150, R152) -/

/-- Two words have a bit in common exactly when their conjunction is not 0. -/
theorem and_ne_zero_iff {n : Nat} {a b : BitVec n} : a &&& b ≠ 0 ↔
    ∃ k, k < n ∧ a.getLsbD k = true ∧ b.getLsbD k = true := by
  constructor
  · intro h
    by_contra! hn
    refine h (BitVec.eq_of_getLsbD_eq fun k hk => ?_)
    simpa using hn k hk
  · rintro ⟨k, -, ha, hb⟩ h
    have : (a &&& b).getLsbD k = true := by rw [BitVec.getLsbD_and, ha, hb]; rfl
    rw [h] at this
    simp at this

/-- R152: after a cause has entered, ATN is asserted exactly when a pending cause is enabled. -/
theorem State.enterCause_atn_iff (s : State) (c : Cause) : (s.enterCause c).report.atn = true ↔
    ∃ k, k < 6 ∧ (s.enterCause c).report.causes.getLsbD k = true ∧ s.standing.enables.getLsbD k = true := by
  have hatn : (s.enterCause c).report.atn = decide ((s.enterCause c).report.causes &&& s.standing.enables ≠ 0) := rfl
  rw [hatn, decide_eq_true_iff, and_ne_zero_iff]

/-- Settles O50: a cause enters in one step, and the close of an event is QUIET's entry or the idle count alone. -/
theorem causesEnterAndEveryEventClosesWithQuiet : Obligations.CausesEnterAndEveryEventClosesWithQuiet := by
  refine ⟨fun s c => ⟨_, rfl, s.enterCause_made c, ?_, s.enterCause_atn_iff c, rfl⟩, fun s hp => ?_⟩
  · cases c <;> rfl
  · by_cases hq : s.AllQuiet
    · have made := State.enterCause_made
        ({ s.idleCount with report := { s.idleCount.report with quietArmed := false } } : State) .quiet
      rw [State.afterEvent_of_allQuiet hp hq]
      rw [State.idleCount_eq] at made ⊢
      exact ⟨fun _ => ⟨rfl, rfl, rfl, made.due, made.asked, made.covered⟩, fun h => absurd hq h, rfl, rfl⟩
    · rw [State.afterEvent_of_not_allQuiet hp hq, State.idleCount_eq]
      exact ⟨fun h => absurd h hq, fun _ => ⟨rfl, rfl⟩, rfl, rfl⟩

/-! ### Entry to CLEARING at HVOK_SEEN (R97, R98, R106) -/

theorem Sequencer.groupWatched_iff {q : Sequencer} {p : ParamSet} {axis : Axis} {g : Nat} :
    q.groupWatched p axis g = true ↔
      g < 8 ∧ (p.mask axis).getLsbD g = false ∧ (q.outSet axis).getLsbD g = false := by
  simp only [Sequencer.groupWatched, Bool.and_eq_true, decide_eq_true_eq, Bool.not_eq_true', and_assoc]

/-- R106: the timer of a group whose axis becomes live. -/
theorem Sequencer.entry_liveTimers (q : Sequencer) (p : ParamSet) (axis : Axis) {g : Nat} (hg : g < 8) :
    entry (q.liveTimers p axis) g none =
      if (p.mask axis).getLsbD g = false ∧ (q.outSet axis).getLsbD g = false ∧ (q.inputs axis).getLsbD g = true then
        some (debounceMicros p.debounce) else none := by
  rw [Sequencer.liveTimers, entry_ofFn _ hg]
  simp only [startDebounce, Bool.and_eq_true, Sequencer.groupWatched_iff, hg, true_and, and_assoc]

theorem State.enterClearing_groupTimer (s : State) (axis : Axis) {g : Nat} (hg : g < 8) :
    s.enterClearing.seq.groupTimer axis g =
      if (s.standing.mask axis).getLsbD g = false ∧ (s.seq.outSet axis).getLsbD g = false ∧
        (s.seq.inputs axis).getLsbD g = true then some (debounceMicros s.standing.debounce) else none := by
  cases axis with
  | x => exact Sequencer.entry_liveTimers s.seq s.standing .x hg
  | y => exact Sequencer.entry_liveTimers s.seq s.standing .y hg

/-- Settles O37: outside LIT nothing follows the entry to CLEARING. -/
theorem hvokSeenEntersClearing : Obligations.HvokSeenEntersClearing := by
  intro s hs hc hd
  have hrow : rowHvokSeen s = some s.enterClearing := if_pos ⟨hc, Option.isSome_iff_ne_none.2 hd⟩
  have hexec : exec .hvokSeen s = .next s.enterClearing.afterEvent :=
    occur_of_some hs.2 ((running_of_not_por hs.1).trans hrow)
  rw [State.afterEvent_of_not_lit (s := s.enterClearing) (fun e => nomatch e)] at hexec
  refine ⟨_, hexec, s.enterClearing_enters, rfl, rfl, ?_, fun axis g hg => s.enterClearing_groupTimer axis hg⟩
  cases hk : s.seq.hvok <;> simp [State.enterClearing, State.clearingEntry, State.emptyWork, State.startSustain,
    State.reportDue, startDebounce, hk]

end Sys2Proof.Machine
end

section
/-! PROOFS. The render stage: which item is taken, the wipe, and the completions of picture reads and write-backs
(R33, R40, R43–R47, R71, R77, R78). -/

namespace Sys2Proof.Machine

variable {s t : State}

/-! ### Rows with nothing due before them -/

theorem occur_running_of_some {due row : State → Option State} (hp : s.por = false) (hd : due s = none)
    (h : row s = some t) : occur due (running row) s = .next t.afterEvent :=
  occur_of_some hd ((running_of_not_por hp).trans h)

theorem occur_running_of_none {due row : State → Option State} (hp : s.por = false) (hd : due s = none)
    (h : row s = none) : occur due (running row) s = .next s :=
  occur_of_none hd ((running_of_not_por hp).trans h)

/-! ### The order of a record's cell words (R44) -/

theorem pairwise_spanList (first last : Nat) : (spanList first last).Pairwise (· < ·) :=
  List.pairwise_map.2 (List.pairwise_lt_range.imp fun h => Nat.add_lt_add_left h first)

theorem Rect.pairwise_cellWords (r : Rect) :
    r.cellWords.Pairwise fun c d => c.line < d.line ∨ (c.line = d.line ∧ c.index < d.index) := by
  refine List.pairwise_flatMap.2 ⟨fun l _ => ?_, ?_⟩
  · exact List.pairwise_map.2 ((pairwise_spanList _ _).imp fun h => .inr ⟨rfl, h⟩)
  · refine (pairwise_spanList _ _).imp fun hlt c hc d hd => .inl ?_
    obtain ⟨_, -, rfl⟩ := List.mem_map.1 hc
    obtain ⟨_, -, rfl⟩ := List.mem_map.1 hd
    exact hlt

/-! ### The item taken (R40) -/

theorem rowCaptureItem_take {r : CaptureRecord} {rest : List CaptureRecord} (hr : s.capture.records = r :: rest)
    (hl : s.seq.panel = .lit) (hc : s.canChoose = true) (h : s.stale.offer = none ∨ s.render.captureCount < 8) :
    rowCaptureItem s = some ((s.captureTaken rest).nextCaptureWord r (s.standing.recordWords r)) := by
  have hgo : ¬(s.stale.offer.isSome = true ∧ 8 ≤ s.render.captureCount) := by
    rintro ⟨hs, h8⟩
    obtain hn | hlt := h
    · rw [hn] at hs; cases hs
    · omega
  rw [rowCaptureItem, hr]
  exact if_pos ⟨hl, hc, hgo⟩

/-- After eight takes from the list a waiting resweep word comes first. -/
theorem rowCaptureItem_yields (hw : s.stale.offer ≠ none) (h : s.render.captureCount = 8) : rowCaptureItem s = none := by
  unfold rowCaptureItem
  split
  · rfl
  · exact if_neg fun hc => hc.2.2 ⟨Option.isSome_iff_ne_none.2 hw, h.ge⟩

theorem rowResweepItem_take {c : CellWord} (ho : s.stale.offer = some c) (hl : s.seq.panel = .lit)
    (hc : s.canChoose = true) (h : s.capture.records = [] ∨ s.render.captureCount = 8) :
    rowResweepItem s = some ((s.resweepTaken c).beginResweep c) := by
  rw [rowResweepItem, ho]
  exact if_pos ⟨hl, hc, h.imp_right fun h8 => h8.ge⟩

theorem rowResweepItem_yields (hr : s.capture.records ≠ []) (h : s.render.captureCount < 8) :
    rowResweepItem s = none := by
  unfold rowResweepItem
  split
  · rfl
  · refine if_neg fun hc => ?_
    obtain ⟨-, -, he | h8⟩ := hc
    · exact hr he
    · omega

theorem rowResweepItem_of_no_offer (ho : s.stale.offer = none) : rowResweepItem s = none := by
  rw [rowResweepItem, ho]

/-- Settles O24: the words of a record in their order, then the take by what waits and by the count. -/
theorem theRenderStageChoosesItsItem : Obligations.TheRenderStageChoosesItsItem := by
  refine ⟨fun p r => ⟨ParamSet.recordWords_of_none, fun q hq => ?_⟩, fun s hp hl hi hn hg => ?_⟩
  · rw [ParamSet.recordWords_of_some hq]
    exact ⟨fun c => by rw [Rect.mem_cellWords_iff, and_assoc], q.pairwise_cellWords⟩
  · have hc : s.canChoose = true := State.canChoose_iff.2 ⟨hi, hn, hg⟩
    refine ⟨fun r rest hr => ⟨fun hw h8 => ?_, fun _ h8 => ?_, fun h => ?_⟩, fun c ho h => ?_, fun hw => ?_⟩
    · exact occur_running_of_none (due := dueNone) hp rfl (rowCaptureItem_yields hw h8)
    · exact occur_running_of_none (due := dueNone) hp rfl (rowResweepItem_yields (by rw [hr]; exact List.cons_ne_nil _ _) h8)
    · exact occur_running_of_some (due := dueNone) hp rfl
        (rowCaptureItem_take hr hl hc (h.imp_left Decidable.not_not.1))
    · exact occur_running_of_some (due := dueNone) hp rfl (rowResweepItem_take ho hl hc h)
    · exact occur_running_of_none (due := dueNone) hp rfl (rowResweepItem_of_no_offer (Decidable.not_not.1 hw))

/-! ### The wipe (R46, R47, R99) -/

/-- Settles O27: an owned write moves the wipe on, the last one is noted; an abandoned one lands and moves nothing. -/
theorem theWipeZeroesThePlaneWordByWord : Obligations.TheWipeZeroesThePlaneWordByWord := by
  refine ⟨fun s hp hc hi hn hg hw => ?_, fun s a hs => ⟨fun h => ?_, fun h => ?_⟩⟩
  · exact occur_running_of_some (due := dueNone) hp rfl (if_pos ⟨hc, State.canChoose_iff.2 ⟨hi, hn, hg⟩, hw⟩)
  · have hrow : rowWipeWriteDone s = some (s.endGrant.writeWord a .both 0) := by rw [rowWipeWriteDone, h]
    exact occur_running_of_some hs.1 hs.2 hrow
  · have hrow := rowWipeWriteDone_owned h
    refine ⟨fun hlt => ?_, fun hend hc he => ?_, fun hend hc he => ?_⟩
    · rw [if_neg (by omega)] at hrow
      exact occur_running_of_some hs.1 hs.2 hrow
    · have hnote : (s.wipeWritten a).noteWipe =
          { s.wipeWritten a with seq := { s.seq with wipeDone := true } } := by
        obtain ⟨hx, -⟩ | ⟨-, -, h⟩ | ⟨-, hx, -⟩ := (s.wipeWritten a).noteWipe_cases
        · exact absurd hc hx
        · exact h
        · exact absurd (he.symm.trans hx) Bool.false_ne_true
      rw [if_pos hend.ge, hnote] at hrow
      exact occur_running_of_some hs.1 hs.2 hrow
    · have hnote : (s.wipeWritten a).noteWipe =
          ({ s.wipeWritten a with seq := { s.seq with wipeDone := true } } : State).enterLit := by
        obtain ⟨hx, -⟩ | ⟨-, hx, -⟩ | ⟨-, -, h⟩ := (s.wipeWritten a).noteWipe_cases
        · exact absurd hc hx
        · exact absurd (hx.symm.trans he) Bool.false_ne_true
        · exact h
      rw [if_pos hend.ge, hnote] at hrow
      exact occur_running_of_some hs.1 hs.2 hrow

/-! ### Picture reads and write-backs (R33, R43–R46, R77, R78) -/

theorem rowPictureReadDone_abandoned {a : Addr} (h : s.port.current = some (.render (.readPicture a) false)) :
    rowPictureReadDone s = some s.endGrant := by
  rw [rowPictureReadDone, h]

theorem rowPictureReadDone_owned {a : Addr} {c : CellWord} {got : List (Addr × Word)} {first : Addr} {more : List Addr}
    (h : s.port.current = some (.render (.readPicture a) true))
    (hi : s.render.item = some (.resweep c got (first :: more) .pictureRead)) :
    rowPictureReadDone s = some (s.endGrant.resweepRead c (got ++ [(a, s.readWord a)]) more) := by
  simp only [rowPictureReadDone, h, hi]

theorem rowWriteBackDone_abandoned {a : Addr} {w : Word} (h : s.port.current = some (.render (.writeBack a w) false)) :
    rowWriteBackDone s = some (s.endGrant.writeWord a .both w) := by
  rw [rowWriteBackDone, h]

theorem rowWriteBackDone_owned {a : Addr} {w : Word} {i : RenderItem}
    (h : s.port.current = some (.render (.writeBack a w) true)) (hi : s.render.item = some i) :
    rowWriteBackDone s = some ((s.endGrant.writeWord a .both w).cellWordDone i) := by
  simp only [rowWriteBackDone, h, hi, Option.map_some]

/-- Settles O28: each completion by its owner, and by the item in hand. -/
theorem pictureReadsAndWriteBacksComplete : Obligations.PictureReadsAndWriteBacksComplete := by
  refine ⟨fun s a hs => ⟨fun h => ?_, fun h c got first => ⟨fun b more hi => ?_, fun hi => ?_⟩⟩,
    fun s a w hs => ⟨fun h => ?_, fun h => ⟨fun r c rest v hi => ?_, fun c got toRead v hi => ?_⟩⟩⟩
  · exact occur_running_of_some hs.1 hs.2 (rowPictureReadDone_abandoned h)
  · exact occur_running_of_some hs.1 hs.2 (rowPictureReadDone_owned h hi)
  · exact occur_running_of_some hs.1 hs.2 (rowPictureReadDone_owned h hi)
  · exact occur_running_of_some hs.1 hs.2 (rowWriteBackDone_abandoned h)
  · exact occur_running_of_some hs.1 hs.2 (rowWriteBackDone_owned h hi)
  · exact occur_running_of_some hs.1 hs.2 (rowWriteBackDone_owned h hi)

end Sys2Proof.Machine
end

section
/-! PROOFS. The take of a burst at a slot in LIT, and what an applied commit does to each owner
(R36, R41, R73, R84, R86–R88, R108, R143). -/

namespace Sys2Proof.Machine

variable {s t : State}

/-! ### The take of a burst (R86, R87) -/

/-- R86: the orders gathered are those of the window that ride with the oldest. -/
theorem gathered_eq_filter {g : Nat} (hg : 1 ≤ g) (head : CellOrder) (rest : List CellOrder) :
    gathered g (head :: rest) = ((head :: rest).take g).filter head.rides := by
  obtain ⟨n, rfl⟩ := Nat.exists_eq_add_of_le' hg
  have hself : head.rides head = true := by simp [CellOrder.rides]
  rw [List.take_succ_cons, List.filter_cons_of_pos hself]
  rfl

theorem remaining_eq_filter {g : Nat} (hg : 1 ≤ g) (head : CellOrder) (rest : List CellOrder) :
    remaining g (head :: rest) =
      ((head :: rest).take g).filter (fun o => !head.rides o) ++ (head :: rest).drop g := by
  obtain ⟨n, rfl⟩ := Nat.exists_eq_add_of_le' hg
  have hself : ¬(!head.rides head) = true := by simp [CellOrder.rides]
  rw [List.take_succ_cons, List.filter_cons_of_neg (p := fun o => !head.rides o) hself]
  rfl

theorem State.inService_eq_filter (s : State) (orders : List CellOrder) : s.inService orders =
    orders.filter fun o => !(s.seq.outX.getLsbD (o.column / 64)) && !(s.seq.outY.getLsbD (o.line / 64)) := by
  simp only [State.inService, Sequencer.cellOut, Bool.not_or]

theorem State.slot_lit {head : CellOrder} {rest : List CellOrder} (hl : s.seq.panel = .lit)
    (hq : s.queue = head :: rest) : s.slot = s.takeBurst head := by
  unfold State.slot
  rw [hl]
  dsimp only
  rw [hq]

/-- The state at a take, from what it gathers, keeps and leaves (R86–R88). -/
theorem State.takeBurst_eq {all kept left : List CellOrder} (head : CellOrder)
    (hall : gathered s.standing.gatherWindow s.queue = all) (hkept : s.inService all = kept)
    (hleft : remaining s.standing.gatherWindow s.queue = left) : s.takeBurst head = { s with
      queue := left
      address := { s.address with
        cellsAddressed := s.address.cellsAddressed + BitVec.ofNat 32 kept.length
        droppedOrders := satAdd s.address.droppedOrders (all.length - kept.length)
        pulse := if kept = [] then none
          else some (s.pulseFor (.burst head.line head.kind (kept.map (·.column)))) }
      glass := s.glass.applyBurst head.line head.kind (kept.map (·.column))
      report := { s.report with quietArmed := true } } := by
  subst hall hkept hleft
  simp only [State.takeBurst, List.isEmpty_iff]

/-- Settles O32: the slot takes the burst of the oldest order. -/
theorem aSlotInLitTakesABurst : Obligations.ASlotInLitTakesABurst := by
  intro s head rest hs hrun hphase hl hq hg window matching all kept dropped fit
  have hrow : rowSustainCycleStart s = some (s.openCycle.takeBurst head) := by
    rw [rowSustainCycleStart, if_pos ⟨hrun, hphase⟩, State.slot_lit (s := s.openCycle) hl hq]
  have hall : gathered s.standing.gatherWindow s.queue = all := by
    rw [hq, gathered_eq_filter hg, ← hq]; rfl
  have hleft : remaining s.standing.gatherWindow s.queue =
      (window.filter fun o => !matching o) ++ s.queue.drop s.standing.gatherWindow := by
    rw [hq, remaining_eq_filter hg, ← hq]; rfl
  rw [State.takeBurst_eq (s := s.openCycle) head hall (s.inService_eq_filter all) hleft] at hrow
  exact occur_running_of_some hs.1 hs.2 hrow

/-! ### An applied commit (R41, R73, R84, R108) -/

theorem ParamSet.commitMarks_iff {old new : ParamSet} {l : Nat} : old.commitMarks new l = true ↔
    ¬((old.base = new.base ∧ old.format = new.format ∧ old.pitch = new.pitch ∧ old.width = new.width ∧
      old.height = new.height ∧ old.originX = new.originX ∧ old.originY = new.originY ∧ old.stepX = new.stepX ∧
      old.stepY = new.stepY) ∧ old.margin = new.margin ∧ old.ditherMode = new.ditherMode ∧
      old.fixedThreshold = new.fixedThreshold ∧ old.matrix = new.matrix ∧ old.toneMap = new.toneMap ∧
      old.cursorColumn = new.cursorColumn ∧ old.thicknessV = new.thicknessV) ∨
    (¬(old.cursorLine = new.cursorLine ∧ old.thicknessH = new.thicknessH) ∧
      ((old.cursorLine ≤ l ∧ l < old.cursorLine + old.thicknessH) ∨
        (new.cursorLine ≤ l ∧ l < new.cursorLine + new.thicknessH))) := by
  simp only [ParamSet.commitMarks, ParamSet.marksAll, ParamSet.movesBarH, ParamSet.inBarH, Bool.or_eq_true,
    Bool.and_eq_true, Bool.not_eq_true', ← Bool.not_eq_true, decide_eq_true_eq, and_assoc]

/-- R84: what an applied commit leaves of the address stage. -/
theorem AddressStage.applyCommit_eq (a : AddressStage) (old new : ParamSet) : a.applyCommit old new = { a with
    currentA := if a.running = false ∨ new.rampSelect = 0 then new.phaseA else a.currentA
    currentB := if a.running = false ∨ new.rampSelect = 0 then new.phaseB else a.currentB
    tick := if a.running = true ∧ old.rampSelect ≠ new.rampSelect then tickInterval new.rampSelect
      else a.tick } := by
  simp only [AddressStage.applyCommit, Bool.or_eq_true, Bool.and_eq_true, Bool.not_eq_true', decide_eq_true_eq]

theorem Sequencer.remask_groupTimer (q : Sequencer) (old new : ParamSet) (axis : Axis) {g : Nat} (hg : g < 8) :
    (q.remask old new).groupTimer axis g = q.remaskTimer old new axis g := by
  cases axis with
  | x => exact entry_ofFn (fun k : Fin 8 => q.remaskTimer old new .x k.val) hg none
  | y => exact entry_ofFn (fun k : Fin 8 => q.remaskTimer old new .y k.val) hg none

theorem PanelState.addressed_iff {p : PanelState} : p.addressed = true ↔ p = .clearing ∨ p = .lit := by
  cases p <;> simp [PanelState.addressed]

/-- Settles O23: the applied commit owner by owner, then the soft restart that a moved plane makes of it. -/
theorem anAppliedCommitReachesEveryOwner : Obligations.AnAppliedCommitReachesEveryOwner := by
  intro new s hp hi hc old descriptor dots bar barMoved
  have hlines (l : Fin 512) : (s.commitApplied new).stale.lines[l] =
      if old.commitMarks new l.val = true then ⟨true, s.capture.records.length⟩ else s.stale.lines[l] :=
    StaleSet.mark_lines ..
  have hrow := rowCommitApply_eq hi hc
  refine ⟨s.commitApplied new, ⟨rfl, rfl, rfl, rfl⟩, ⟨rfl, rfl, fun l => ⟨fun h => ?_, fun hd hb => ?_⟩⟩,
    s.address.applyCommit_eq old new, fun axis g hg => ?_, fun h => ?_, fun hm h => ?_⟩
  · rw [hlines, if_pos (ParamSet.commitMarks_iff.2 h)]
  · rw [hlines, if_neg fun hx => (ParamSet.commitMarks_iff.1 hx).elim (fun hn => hn hd) hb]
  · have htimer : (s.commitApplied new).seq.groupTimer axis g = s.seq.remaskTimer old new axis g :=
      s.seq.remask_groupTimer old new axis hg
    rw [htimer, Sequencer.remaskTimer]
    refine ⟨fun hn => if_pos hn, fun hn ho => ?_, fun hn ho => ?_⟩
    · rw [if_neg (ne_true_of_eq_false hn), if_pos ho]
      simp only [startDebounce, Bool.and_eq_true]
    · rw [if_neg (ne_true_of_eq_false hn), if_neg (ne_true_of_eq_false ho)]
  · have hstay : ¬(s.standing.planeBlock ≠ new.planeBlock ∧ s.seq.panel.addressed = true) := by
      rintro ⟨hm, ha⟩
      obtain heq | ⟨hcl, hl⟩ := h
      · exact hm heq
      · exact (PanelState.addressed_iff.1 ha).elim hcl hl
    rw [if_neg hstay] at hrow
    exact occur_running_of_some (due := dueNone) hp rfl hrow
  · rw [if_pos ⟨hm, PanelState.addressed_iff.2 h⟩] at hrow
    exact ⟨_, occur_running_of_some (due := dueNone) hp rfl hrow, (s.commitApplied new).softRestart_restarts⟩

end Sys2Proof.Machine
end

section
/-! PROOFS. Memory (spec/04 4.1, spec/08 8.2): reading the lanes of a written word and of a block, and what the accesses of a
grant leave in memory. -/

namespace Sys2Proof.Machine

variable {s t : State}

/-! ### Bytes of a word (R52, R56, R139) -/

theorem laneOf_append (hi lo : Byte) (high : Bool) : laneOf (hi ++ lo) high = if high then hi else lo := by
  refine BitVec.eq_of_getLsbD_eq fun i hi => ?_
  cases high <;> simp only [laneOf, highByte, lowByte, BitVec.getLsbD_extractLsb', BitVec.getLsbD_append, hi,
    decide_true, Bool.true_and, Bool.false_eq_true, if_false, if_true] <;> simp [hi]

theorem laneOf_mergeLanes (l : Lanes) (old new : Word) (high : Bool) :
    laneOf (mergeLanes l old new) high = if l.carries high = true then laneOf new high else laneOf old high := by
  rw [mergeLanes, laneOf_append]
  cases high <;> rfl

theorem laneOf_carriedData (l : Lanes) (w : Word) (high : Bool) :
    laneOf (carriedData l w) high = if l.carries high = true then laneOf w high else 0 := by
  rw [carriedData, laneOf_mergeLanes]
  cases high <;> rfl

theorem State.laneOf_readWord (s : State) (a : Addr) (high : Bool) : laneOf (s.readWord a) high = s.readLane a high := by
  rw [State.readWord, laneOf_append]
  cases high <;> rfl

theorem Lanes.carries_iff (l : Lanes) (high : Bool) : l.carries high = true ↔ (match l with
    | .both => True
    | .high => high = true
    | .low => high = false) := by
  cases l <;> cases high <;> decide

/-! ### Blocks of words (R118, R119) -/

/-- A block leaves every word outside it. -/
theorem State.readLane_writeBlock_other {start : Nat} {words : List Word} (hfit : start + words.length ≤ 262144)
    {a : Addr} (high : Bool) (ha : a.toNat < start ∨ start + words.length ≤ a.toNat) :
    (s.writeBlock start words).readLane a high = s.readLane a high := by
  induction words generalizing s start with
  | nil => rfl
  | cons w ws ih =>
    rw [List.length_cons] at hfit ha
    have hne : a ≠ BitVec.ofNat 18 start := by
      rintro rfl
      rw [BitVec.toNat_ofNat, Nat.mod_eq_of_lt (by omega)] at ha
      omega
    rw [State.writeBlock, ih (by omega) (by omega), State.readLane_writeWord, if_neg fun h => hne h.1]

/-- After a block each of its words reads as it was written. -/
theorem State.readWord_writeBlock {start : Nat} {words : List Word} (hfit : start + words.length ≤ 262144) {i : Nat}
    (hi : i < words.length) : (s.writeBlock start words).readWord (BitVec.ofNat 18 (start + i)) = words.getD i 0 := by
  induction words generalizing s start i with
  | nil => cases hi
  | cons w ws ih =>
    rw [List.length_cons] at hfit hi
    rw [State.writeBlock]
    cases i with
    | zero =>
      have hbefore : (BitVec.ofNat 18 start).toNat < start + 1 := by
        rw [BitVec.toNat_ofNat, Nat.mod_eq_of_lt (by omega)]; omega
      have hkeep (high : Bool) := State.readLane_writeBlock_other (s := s.writeWord (BitVec.ofNat 18 start) .both w)
        (start := start + 1) (words := ws) (by omega) high (.inl hbefore)
      calc State.readWord _ (BitVec.ofNat 18 start)
          = (s.writeWord (BitVec.ofNat 18 start) .both w).readWord (BitVec.ofNat 18 start) := by
            rw [State.readWord, hkeep, hkeep]; rfl
        _ = w := s.readWord_writeWord_same _ w
    | succ i =>
      rw [show start + (i + 1) = start + 1 + i by omega, ih (by omega) (by omega)]
      rfl

/-- Settles O14: the lanes of one write, of a merge and of a record, then the block word by word. -/
theorem aBlockStandsInMemory : Obligations.ABlockStandsInMemory := by
  refine ⟨?_, fun s start words hfit => ⟨fun i hi => State.readWord_writeBlock hfit hi,
    fun a high ha => State.readLane_writeBlock_other hfit high ha⟩⟩
  intro s a b l w old high carried byte written
  refine ⟨fun h => ?_, fun h => ?_, fun h => ?_, s.laneOf_readWord b high⟩
  · have hc : l.carries high = true := (l.carries_iff high).2 h
    exact ⟨(s.readLane_writeWord a a l w high).trans (if_pos ⟨rfl, hc⟩),
      (laneOf_mergeLanes l old w high).trans (if_pos hc), (laneOf_carriedData l w high).trans (if_pos hc)⟩
  · have hc : ¬l.carries high = true := fun hc => h ((l.carries_iff high).1 hc)
    exact ⟨(s.readLane_writeWord a a l w high).trans (if_neg fun hx => hc hx.2),
      (laneOf_mergeLanes l old w high).trans (if_neg hc), (laneOf_carriedData l w high).trans (if_neg hc)⟩
  · exact (s.readLane_writeWord a b l w high).trans (if_neg fun hx => h hx.1)

/-! ### What the accesses of a grant leave in memory (R114, R118, R119) -/

/-- One access: the lanes under its write strobe take the data. -/
def PortDrive.into (m : List Host.Cell) (d : PortDrive) : List Host.Cell :=
  match d.address, d.writeStrobe, d.data with
  | .word a, some lanes, some w => Memory.writeLanes m a lanes w
  | _, _, _ => m

theorem PortDrive.into_wf {m : List Host.Cell} (d : PortDrive) (h : Memory.wf m = true) :
    Memory.wf (PortDrive.into m d) = true := by
  unfold PortDrive.into
  split
  exacts [Memory.wf_writeLanes _ _ _ h, h]

/-- Memory as the write strobes of the grant in progress leave it. -/
def State.drivenDram (s : State) : List Host.Cell := s.portDrives.foldl PortDrive.into s.dram

theorem State.drivenDram_wf (h : Memory.wf s.dram = true) : Memory.wf s.drivenDram = true := by
  unfold State.drivenDram
  induction s.portDrives generalizing s with
  | nil => exact h
  | cons d ds ih => exact ih (s := { s with dram := PortDrive.into s.dram d }) (d.into_wf h)

theorem State.drivenDram_read {a : Addr} (h : s.portDrives = [.read a]) : s.drivenDram = s.dram := by
  rw [State.drivenDram, h]; rfl

theorem State.drivenDram_write {a : Addr} {l : Lanes} {w : Word} (h : s.portDrives = [.write a (some l) w]) :
    s.drivenDram = Memory.writeLanes s.dram a l w := by
  rw [State.drivenDram, h]; rfl

theorem State.drivenDram_withheld {a : Addr} {w : Word} (h : s.portDrives = [.write a none w]) :
    s.drivenDram = s.dram := by
  rw [State.drivenDram, h]; rfl

theorem State.writeBlock_dram (s : State) (a : Nat) (ws : List Word) :
    (s.writeBlock a ws).dram = (blockDrives a ws).foldl PortDrive.into s.dram := by
  induction ws generalizing s a with
  | nil => rfl
  | cons w ws ih => exact ih (s.writeWord (BitVec.ofNat 18 a) .both w) (a + 1)

theorem State.drivenDram_block {a : Nat} {ws : List Word} (h : s.portDrives = blockDrives a ws) :
    (s.endGrant.writeBlock a ws).dram = s.drivenDram := by
  rw [State.writeBlock_dram, State.drivenDram, h]; rfl

/-! ### What the port drives, grant by grant (R52, R114, R116, R130) -/

theorem State.portDrives_idle (h : s.port.current = none) : s.portDrives = [] := by rw [State.portDrives, h]

theorem State.portDrives_refresh (h : s.port.current = some .refresh) :
    s.portDrives = [⟨.row s.port.refreshRow, true, false, none, none⟩] := by rw [State.portDrives, h]

theorem State.portDrives_busRead (h : s.port.current = some .passthrough) {a : Addr}
    (hc : s.passage.inHand = some (.read a)) : s.portDrives = [.read a] := by
  simp only [State.portDrives, h, hc]

theorem State.portDrives_busWrite (h : s.port.current = some .passthrough) {a : Addr} {lanes : Option Lanes} {w : Word}
    {d : GuardDecision} (hc : s.passage.inHand = some (.write a lanes w d)) :
    s.portDrives = [.write a (s.strobeOf a lanes) w] := by
  simp only [State.portDrives, h, hc]

theorem State.portDrives_reportBlock {words : List Word} (h : s.port.current = some (.reportBlock (some words))) :
    s.portDrives = blockDrives (controlPageStart s.straps + 240) words := by rw [State.portDrives, h]

theorem State.portDrives_image {n : Nat} (h : s.port.current = some (.image n)) :
    s.portDrives = blockDrives (controlPageStart s.straps + (imageWords n).1) (imageWords n).2 := by
  rw [State.portDrives, h]

theorem State.portDrives_readPicture {a : Addr} {o : Bool} (h : s.port.current = some (.render (.readPicture a) o)) :
    s.portDrives = [.read a] := by rw [State.portDrives, h]

theorem State.portDrives_readCell {a : Addr} {o : Bool} (h : s.port.current = some (.render (.readCell a) o)) :
    s.portDrives = [.read a] := by rw [State.portDrives, h]

theorem State.portDrives_copyRead {a : Addr} {o : Bool} (h : s.port.current = some (.copy (.read a) o)) :
    s.portDrives = [.read a] := by rw [State.portDrives, h]

theorem State.portDrives_writeBack {a : Addr} {w : Word} {o : Bool}
    (h : s.port.current = some (.render (.writeBack a w) o)) : s.portDrives = [.write a (some .both) w] := by
  rw [State.portDrives, h]

theorem State.portDrives_wipe {a : Addr} {o : Bool} (h : s.port.current = some (.render (.wipe a) o)) :
    s.portDrives = [.write a (some .both) 0] := by rw [State.portDrives, h]

theorem State.portDrives_copyWrite {a : Addr} {w : Word} {o : Bool} (h : s.port.current = some (.copy (.write a w) o)) :
    s.portDrives = [.write a (s.strobeOf a (some .both)) w] := by rw [State.portDrives, h]

/-- R52, R130: a cell-plane write is withheld. -/
theorem State.strobeOf_plane {a : Addr} (h : s.classify a = .plane) (lanes : Option Lanes) : s.strobeOf a lanes = none :=
  if_pos h

theorem State.strobeOf_other {a : Addr} (h : s.classify a ≠ .plane) (lanes : Option Lanes) : s.strobeOf a lanes = lanes :=
  if_neg h

end Sys2Proof.Machine
end

section
/-! PROOFS. What a step can do to the bus, the memory port and memory (R51–R66, R112–R119): an access of the grant in progress
ends with what it wrote, the passage takes a cycle or settles a HELD write, the work is emptied, or all of it stands. -/

namespace Sys2Proof.Machine

variable {s t u : State}

/-! ### The grant in progress, as the passage and the refresh see it -/

/-- Whose grant is in progress. -/
inductive GrantClass where
  | idle
  | refresh
  | passthrough
  | inner

/-- The report unit's, the render stage's and the copy engine's grants are of one class. -/
def Grant.classOf : Grant → GrantClass
  | .refresh => .refresh
  | .passthrough => .passthrough
  | .reportBlock _ | .image _ | .render _ _ | .copy _ _ => .inner

def MemoryPort.grantClass (p : MemoryPort) : GrantClass := (p.current.map Grant.classOf).getD .idle

theorem MemoryPort.grantClass_of_current {p q : MemoryPort} (h : q.current = p.current) :
    q.grantClass = p.grantClass := by
  rw [MemoryPort.grantClass, h]; rfl

theorem MemoryPort.grantClass_some {p : MemoryPort} {g : Grant} (h : p.current = some g) :
    p.grantClass = g.classOf := by
  rw [MemoryPort.grantClass, h]; rfl

theorem MemoryPort.grantClass_idle {p : MemoryPort} : p.grantClass = .idle ↔ p.current = none := by
  unfold MemoryPort.grantClass
  rcases p.current with _ | g
  · exact ⟨fun _ => rfl, fun _ => rfl⟩
  · cases g <;> exact ⟨(fun e => nomatch e), (fun e => nomatch e)⟩

theorem MemoryPort.grantClass_refresh {p : MemoryPort} : p.grantClass = .refresh ↔ p.current = some .refresh := by
  unfold MemoryPort.grantClass
  rcases p.current with _ | g
  · exact ⟨(fun e => nomatch e), (fun e => nomatch e)⟩
  · cases g <;> simp [Grant.classOf]

theorem MemoryPort.grantClass_passthrough {p : MemoryPort} :
    p.grantClass = .passthrough ↔ p.current = some .passthrough := by
  unfold MemoryPort.grantClass
  rcases p.current with _ | g
  · exact ⟨(fun e => nomatch e), (fun e => nomatch e)⟩
  · cases g <;> simp [Grant.classOf]

/-- A render access that is given up is still one of the render stage's. -/
theorem MemoryPort.dropRender_grantClass (p : MemoryPort) : p.dropRender.grantClass = p.grantClass := by
  unfold MemoryPort.dropRender MemoryPort.grantClass
  dsimp only
  split
  · rename_i h; rw [h]; rfl
  · rfl

theorem MemoryPort.dropCopy_grantClass (p : MemoryPort) : p.dropCopy.grantClass = p.grantClass := by
  unfold MemoryPort.dropCopy MemoryPort.grantClass
  dsimp only
  split
  · rename_i h; rw [h]; rfl
  · rfl

/-! ### The bus stands -/

/-- Between `s` and `t` nothing moved of memory, the passage, and what they have of the port. -/
structure State.KeepsBus (s t : State) : Prop where
  por : t.por = s.por
  dram : t.dram = s.dram
  passage : t.passage = s.passage
  grant : t.port.grantClass = s.port.grantClass
  passWaiting : t.port.passWaiting = s.port.passWaiting
  deciding : t.port.deciding = s.port.deciding
  refresh : t.port.refreshWaiting = s.port.refreshWaiting ∧ t.port.pendingRefresh = s.port.pendingRefresh ∧
    t.port.refreshTimer = s.port.refreshTimer

/-- The bus stands when the grant itself stands. -/
theorem State.KeepsBus.of_same (hp : t.por = s.por := by simp) (hd : t.dram = s.dram := by simp)
    (hb : t.passage = s.passage := by simp) (hc : t.port.current = s.port.current := by simp)
    (hw : t.port.passWaiting = s.port.passWaiting := by simp) (hg : t.port.deciding = s.port.deciding := by simp)
    (hr : t.port.refreshWaiting = s.port.refreshWaiting ∧ t.port.pendingRefresh = s.port.pendingRefresh ∧
      t.port.refreshTimer = s.port.refreshTimer := by simp) : s.KeepsBus t :=
  ⟨hp, hd, hb, MemoryPort.grantClass_of_current hc, hw, hg, hr⟩

theorem State.KeepsBus.refl (s : State) : s.KeepsBus s := .of_same

theorem State.KeepsBus.trans (h : s.KeepsBus t) (k : t.KeepsBus u) : s.KeepsBus u where
  por := k.por.trans h.por
  dram := k.dram.trans h.dram
  passage := k.passage.trans h.passage
  grant := k.grant.trans h.grant
  passWaiting := k.passWaiting.trans h.passWaiting
  deciding := k.deciding.trans h.deciding
  refresh := ⟨k.refresh.1.trans h.refresh.1, k.refresh.2.1.trans h.refresh.2.1, k.refresh.2.2.trans h.refresh.2.2⟩

/-- The work of two states with the same bus is emptied alike. -/
theorem State.KeepsBus.emptyWork (k : s.KeepsBus t) : s.emptyWork.KeepsBus t.emptyWork where
  por := k.por
  dram := k.dram
  passage := congrArg Passage.emptied k.passage
  grant := (t.port.dropRender_grantClass.trans k.grant).trans s.port.dropRender_grantClass.symm
  passWaiting := by
    change (t.port.passWaiting || t.passage.holds) = (s.port.passWaiting || s.passage.holds)
    rw [k.passWaiting, k.passage]
  deciding := k.deciding
  refresh := k.refresh

theorem State.enterDark_bus (s : State) : s.emptyWork.KeepsBus s.enterDark := .of_same rfl rfl rfl rfl rfl rfl ⟨rfl, rfl, rfl⟩

theorem State.softRestart_bus (s : State) : s.emptyWork.KeepsBus s.softRestart :=
  .of_same rfl rfl rfl rfl rfl rfl ⟨rfl, rfl, rfl⟩

theorem State.enterClearing_bus (s : State) : s.emptyWork.KeepsBus s.enterClearing :=
  .of_same rfl rfl rfl rfl rfl rfl ⟨rfl, rfl, rfl⟩

theorem State.barNoGroups_bus (s : State) : s.emptyWork.KeepsBus s.barNoGroups :=
  .of_same rfl rfl rfl rfl rfl rfl ⟨rfl, rfl, rfl⟩

theorem State.recover_bus (s : State) : s.emptyWork.KeepsBus s.recover := by
  obtain ⟨-, e⟩ | ⟨-, e⟩ := s.recover_cases <;> rw [e] <;> exact .of_same rfl rfl rfl rfl rfl rfl ⟨rfl, rfl, rfl⟩

theorem State.Faults.bus (h : s.Faults t) : s.emptyWork.KeepsBus t := by
  obtain ⟨-, q, k, -, rfl⟩ := h
  have hq : s.KeepsBus (State.enterFault { s with seq := q } k) := .of_same
  exact hq.emptyWork.trans (State.recover_bus _)

theorem State.abortCopy_bus (s : State) : s.KeepsBus s.abortCopy := by
  obtain ⟨-, e⟩ | ⟨-, e⟩ := s.abortCopy_cases <;> rw [e]
  · exact .refl s
  · have hd : s.KeepsBus { s with port := s.port.dropCopy } :=
      ⟨rfl, rfl, rfl, s.port.dropCopy_grantClass, rfl, rfl, rfl, rfl, rfl⟩
    exact hd.trans .of_same

/-! ### A cycle in hand -/

/-- The cycle is a write that waits for a place (R58). -/
def BusCycle.isHeld : BusCycle → Bool
  | .write _ _ _ .held => true
  | _ => false

theorem Passage.holds_of_inHand {p : Passage} {c : BusCycle} (h : p.inHand = some c) : p.holds = c.isHeld := by
  unfold Passage.holds BusCycle.isHeld
  rw [h]
  rcases c with a | ⟨a, l, w, d⟩
  · rfl
  · cases d <;> rfl

/-- The passage with `c` in hand, its access asked for unless it is HELD (R51, R58, R60). -/
def State.withCycle (s : State) (c : BusCycle) (stall : Timer) : State :=
  { s with
    passage := { s.passage with inHand := some c, presented := none, stallTimer := stall, rdy := false }
    port := { s.port with passWaiting := s.port.passWaiting || !c.isHeld } }

/-- What taking a cycle, or settling a HELD write, does to the bus: the cycle had no access before, and the stall timer
runs for a HELD one alone. -/
def State.TakesCycle (s t : State) : Prop :=
  (s.passage.inHand = none ∨ s.passage.holds = true) ∧
    ∃ c stall, (s.passage.stallTimer.isSome = s.passage.holds → stall.isSome = c.isHeld) ∧
      (s.withCycle c stall).KeepsBus t

theorem State.takeRead_takes (hn : s.passage.inHand = none) (a : Addr) : s.TakesCycle (s.takeRead a) :=
  ⟨.inl hn, .read a, s.passage.stallTimer, fun h => h.trans (Passage.holds_none hn),
    .of_same rfl rfl rfl rfl (Bool.or_true _).symm rfl ⟨rfl, rfl, rfl⟩⟩

/-- A write with its decision made asks for its access. -/
theorem State.holdWrite_takes (h : s.passage.inHand = none ∨ s.passage.holds = true) (a : Addr) (l : Option Lanes)
    (w : Word) (d : GuardDecision) (hd : d ≠ .held) (c : CaptureList) :
    s.TakesCycle (({ s with capture := c } : State).holdWrite a l w d none).askPassthrough := by
  have hc : (BusCycle.write a l w d).isHeld = false := by cases d <;> simp_all [BusCycle.isHeld]
  refine ⟨h, _, none, fun _ => hc.symm, .of_same rfl rfl rfl rfl ?_ rfl ⟨rfl, rfl, rfl⟩⟩
  simp [State.withCycle, State.askPassthrough, hc]

theorem State.takeWrite_takes (hn : s.passage.inHand = none) (a : Addr) (v b : Bool) (w : Word) :
    s.TakesCycle (s.takeWrite a v b w) := by
  obtain e | ⟨-, -, e⟩ | e | ⟨-, e⟩ := s.takeWrite_cases a v b w <;> rw [e]
  · exact State.holdWrite_takes (.inl hn) a _ w .unplaced (by decide) s.capture
  · exact State.holdWrite_takes (.inl hn) a _ w .placed (by decide) _
  · exact State.holdWrite_takes (.inl hn) a _ w .expired (by decide) s.capture
  · exact ⟨.inl hn, .write a _ w .held, _, fun _ => rfl,
      .of_same rfl rfl rfl rfl (Bool.or_false _).symm rfl ⟨rfl, rfl, rfl⟩⟩

/-! ### The end of an access -/

/-- The grant in progress has ended, and memory is as its write strobes leave it. -/
def State.accessed (s : State) : State := { s.endGrant with dram := s.drivenDram }

/-- The bus stands but for memory. -/
theorem State.KeepsBus.of_dram {m : List Host.Cell} (hd : t.dram = m) (k : s.KeepsBus { t with dram := s.dram }) :
    State.KeepsBus { s with dram := m } t :=
  ⟨k.por, hd, k.passage, k.grant, k.passWaiting, k.deciding, k.refresh⟩

/-- A write of the passage or the copy engine that lands (R52). -/
theorem State.drivenDram_landed {a : Addr} {l : Lanes} {w : Word} (h : s.portDrives = [.write a (s.strobeOf a (some l)) w])
    (hp : s.classify a ≠ .plane) : s.drivenDram = Memory.writeLanes s.dram a l w := by
  rw [State.strobeOf_other hp] at h
  exact State.drivenDram_write h

/-- One that is withheld (R52, R130). -/
theorem State.drivenDram_guarded {a : Addr} {lanes : Option Lanes} {w : Word}
    (h : s.portDrives = [.write a (s.strobeOf a lanes) w]) (hp : s.classify a = .plane) : s.drivenDram = s.dram := by
  rw [State.strobeOf_plane hp] at h
  exact State.drivenDram_withheld h

/-! ### Every row -/

/-- What a step can do to the bus. -/
inductive State.BusStep (s : State) : State → Prop
  | stands {t : State} : s.KeepsBus t → s.BusStep t
  | emptied {t : State} : s.emptyWork.KeepsBus t → s.BusStep t
  | takes {t : State} : s.TakesCycle t → s.BusStep t
  /-- an access that is not the passage's has ended -/
  | ended {t : State} : s.port.grantClass = .inner → s.accessed.KeepsBus t → s.BusStep t
  /-- the cycle in hand is over, with what it leaves in memory -/
  | cycleEnded {t : State} (busData count : Word) : s.port.current = some .passthrough →
      ({ s.accessed.endCycle with passage := { s.accessed.endCycle.passage with
        busData := busData, guardedWrites := count } } : State).KeepsBus t → s.BusStep t
  | refreshDue : s.BusStep { s with port := { s.port with
      pendingRefresh := true, refreshWaiting := true, refreshTimer := some Config.refreshMicros } }
  | refreshDone : s.port.current = some .refresh → s.BusStep { s.endGrant with port := { s.endGrant.port with
      refreshRow := s.port.refreshRow + 1, pendingRefresh := s.port.refreshWaiting } }
  | decided {t : State} : rowGrantDecision s = some t → s.BusStep t

/-- A command with its take and its record, for one that leaves the bus alone or empties the work. -/
theorem commandRow_bus {isMine : Byte → Bool} {act : State → State × CommandOutcome}
    (hact : ∀ u : State, u.KeepsBus (act u).1 ∨ u.emptyWork.KeepsBus (act u).1) (h : commandRow isMine act s = some t) :
    s.BusStep t := by
  obtain ⟨o, rest, -, -, -, rfl⟩ := commandRow_cases h
  have htake : s.KeepsBus (s.takeHandOver o rest) := .of_same
  have hrecord (u : State) : u.KeepsBus (u.recordCommand (lowByte o.data) (act (s.takeHandOver o rest)).2) := .of_same
  obtain k | k := hact (s.takeHandOver o rest)
  · exact .stands ((htake.trans k).trans (hrecord _))
  · exact .emptied ((htake.emptyWork.trans k).trans (hrecord _))

/-- A destination write of the copy engine lands or is withheld (R128, R130, R134). -/
theorem State.landed_bus {a : Addr} {w : Word} (h : s.portDrives = [.write a (s.strobeOf a (some .both)) w])
    (hp : s.classify a ≠ .plane) (d : GuardDecision) : s.accessed.KeepsBus (s.endGrant.landed a .both w d) :=
  .of_dram (s := s.endGrant) ((s.endGrant.landed_dram a .both w d).trans (State.drivenDram_landed h hp).symm) .of_same

theorem State.endGrant_bus (h : s.drivenDram = s.dram) : s.accessed.KeepsBus s.endGrant :=
  .of_dram (s := s.endGrant) h.symm .of_same

theorem State.orphanCopyWritten_bus {a : Addr} {w : Word} (h : s.portDrives = [.write a (s.strobeOf a (some .both)) w]) :
    s.accessed.KeepsBus (s.endGrant.orphanCopyWritten a w) := by
  unfold State.orphanCopyWritten
  split
  · exact State.endGrant_bus (State.drivenDram_guarded h ‹_›)
  · exact State.landed_bus h ‹_› .unplaced

theorem State.copyWritten_bus {a : Addr} {w : Word} (h : s.portDrives = [.write a (s.strobeOf a (some .both)) w])
    (q : CopyRequest) (d : GuardDecision) : s.accessed.KeepsBus (s.endGrant.copyWritten q a w d) := by
  unfold State.copyWritten
  split
  · exact (State.endGrant_bus (State.drivenDram_guarded h ‹_›)).trans .of_same
  · exact (State.landed_bus h ‹_› d).trans .of_same

theorem InnerRow.busStep {row : State → Option State} (hr : InnerRow row) (h : row s = some t) : s.BusStep t := by
  cases hr
  case stallExpiry =>
    obtain ⟨a, l, w, hc, rfl⟩ := rowStallExpiry_cases h
    exact .takes (State.holdWrite_takes (.inr (Passage.holds_of_inHand hc)) a l w .expired (by decide) s.capture)
  case heldWritePlaced =>
    obtain ⟨a, l, w, hc, -, rfl⟩ := rowHeldWritePlaced_cases h
    exact .takes (State.holdWrite_takes (.inr (Passage.holds_of_inHand hc)) a l w .placed (by decide) _)
  case passthroughReadDone =>
    obtain ⟨a, hc, hb, rfl⟩ := rowPassthroughReadDone_cases h
    have hd := State.drivenDram_read (State.portDrives_busRead hc hb)
    exact .cycleEnded (s.readWord a) s.passage.guardedWrites hc
      (.of_same rfl hd.symm rfl rfl rfl rfl ⟨rfl, rfl, rfl⟩)
  case passthroughWriteDone =>
    obtain ⟨a, lanes, w, d, hc, hb, hdone⟩ := rowPassthroughWriteDone_cases h
    have hdrive := State.portDrives_busWrite hc hb
    obtain ⟨rfl, rfl⟩ | ⟨l, rfl, rfl⟩ := hdone
    · have hd : s.drivenDram = s.dram := State.drivenDram_withheld (by simpa [State.strobeOf] using hdrive)
      exact .cycleEnded s.passage.busData s.passage.guardedWrites hc (.of_same rfl hd.symm rfl rfl rfl rfl ⟨rfl, rfl, rfl⟩)
    · unfold State.busWritten
      split
      · rename_i hp
        have hd := State.drivenDram_guarded hdrive hp
        exact .cycleEnded s.passage.busData _ hc (.of_same rfl hd.symm rfl rfl rfl rfl ⟨rfl, rfl, rfl⟩)
      · rename_i hp
        have hd := (s.endGrant.endCycle.landed_dram a l w d).trans (State.drivenDram_landed hdrive hp).symm
        have k : s.accessed.endCycle.KeepsBus (s.endGrant.endCycle.landed a l w d) :=
          State.KeepsBus.of_dram (s := s.endGrant.endCycle) hd .of_same
        exact .cycleEnded s.passage.busData s.passage.guardedWrites hc k
  case stagedWrite =>
    obtain ⟨o, rest, rfl⟩ := rowStagedWrite_cases h
    exact .stands .of_same
  case commit =>
    refine commandRow_bus (fun u => .inl ?_) h
    obtain e | e | ⟨-, e⟩ := u.doCommit_cases <;> rw [e] <;> exact .of_same
  case restartPanel =>
    refine commandRow_bus (fun u => ?_) h
    obtain e | ⟨-, e⟩ | ⟨-, e⟩ := u.doRestart_cases <;> rw [e]
    exacts [.inl (.refl u), .inl .of_same, .inr u.softRestart_bus]
  case stopPanel =>
    refine commandRow_bus (fun u => ?_) h
    obtain e | e := u.doStop_cases <;> rw [e]
    exacts [.inl (.refl u), .inr u.enterDark_bus]
  case clearFaults =>
    refine commandRow_bus (fun u => .inl ?_) h
    obtain ⟨f, ⟨-, e⟩ | e⟩ := u.doClearFaults_cases <;> rw [e] <;> exact .of_same
  case release => exact commandRow_bus (fun u => .inl (.of_same rfl rfl rfl rfl rfl rfl ⟨rfl, rfl, rfl⟩)) h
  case startCopy =>
    refine commandRow_bus (fun u => .inl ?_) h
    obtain e | ⟨-, e⟩ := u.doStartCopy_cases <;> rw [e] <;> exact .of_same
  case cancelCopy =>
    refine commandRow_bus (fun u => .inl ?_) h
    obtain e | ⟨-, -, ⟨-, e⟩ | ⟨-, e⟩⟩ := u.doCancelCopy_cases <;> rw [e] <;> exact .of_same
  case resweepAll =>
    refine commandRow_bus (fun u => .inl ?_) h
    obtain e | e := u.doResweepAll_cases <;> rw [e] <;> exact .of_same
  case reportNow => exact commandRow_bus (fun u => .inl (.refl u)) h
  case unknownCommand => exact commandRow_bus (fun u => .inl (.refl u)) h
  case commitApply =>
    obtain ⟨new, -, -, ⟨-, -, rfl⟩ | ⟨-, rfl⟩⟩ := rowCommitApply_cases h
    all_goals have k : s.KeepsBus (s.commitApplied new) := .of_same rfl rfl rfl rfl rfl rfl ⟨rfl, rfl, rfl⟩
    exacts [.emptied (k.emptyWork.trans (State.softRestart_bus _)), .stands k]
  case captureItem =>
    obtain ⟨r, rest, -, -, -, rfl⟩ := rowCaptureItem_cases h
    have k : s.KeepsBus (s.captureTaken rest) := .of_same rfl rfl rfl rfl rfl rfl ⟨rfl, rfl, rfl⟩
    exact .stands (k.trans .of_same)
  case resweepItem =>
    obtain ⟨c, -, -, -, rfl⟩ := rowResweepItem_cases h
    have k : s.KeepsBus (s.resweepTaken c) := .of_same rfl rfl rfl rfl rfl rfl ⟨rfl, rfl, rfl⟩
    exact .stands (k.trans .of_same)
  case wipeItem =>
    obtain ⟨-, -, -, rfl⟩ := rowWipeItem_cases h
    exact .stands .of_same
  case freeEntryWaitEnd =>
    obtain ⟨-, ⟨r, c, rest, -, rfl⟩ | ⟨c, got, toRead, -, rfl⟩⟩ := rowFreeEntryWaitEnd_cases h <;>
      exact .stands .of_same
  case pictureReadDone =>
    obtain ⟨a, ⟨hc, rfl⟩ | ⟨hc, c, got, b, more, -, rfl⟩⟩ := rowPictureReadDone_cases h <;>
      exact .ended (MemoryPort.grantClass_some hc)
        ((State.endGrant_bus (State.drivenDram_read (State.portDrives_readPicture hc))).trans .of_same)
  case cellWordReadDone =>
    obtain ⟨a, ⟨hc, rfl⟩ | ⟨hc, i, c, -, -, -, rfl⟩⟩ := rowCellWordReadDone_cases h <;>
      exact .ended (MemoryPort.grantClass_some hc)
        ((State.endGrant_bus (State.drivenDram_read (State.portDrives_readCell hc))).trans .of_same)
  case writeBackDone =>
    obtain ⟨a, w, ⟨hc, rfl⟩ | ⟨hc, i, -, rfl⟩⟩ := rowWriteBackDone_cases h <;>
      exact .ended (MemoryPort.grantClass_some hc) (.of_dram (s := s.endGrant)
        (by simp [State.drivenDram_write (State.portDrives_writeBack hc), State.writeWord]) .of_same)
  case wipeWriteDone =>
    obtain ⟨a, ⟨hc, rfl⟩ | ⟨hc, ⟨-, rfl⟩ | ⟨-, rfl⟩⟩⟩ := rowWipeWriteDone_cases h
    all_goals have hd := State.drivenDram_write (State.portDrives_wipe hc)
    · exact .ended (MemoryPort.grantClass_some hc) (.of_dram (s := s.endGrant) hd.symm .of_same)
    all_goals
      have k : s.accessed.KeepsBus (s.wipeWritten a) :=
        .of_dram (s := s.endGrant) hd.symm (.of_same rfl rfl rfl rfl rfl rfl ⟨rfl, rfl, rfl⟩)
    · exact .ended (MemoryPort.grantClass_some hc) k
    · exact .ended (MemoryPort.grantClass_some hc) (k.trans .of_same)
  case sustainCycleStart =>
    obtain ⟨-, rfl⟩ := rowSustainCycleStart_cases h
    exact .stands .of_same
  case phaseBStart => rw [rowPhaseBStart_cases h]; exact .stands .of_same
  case addressPulseStart =>
    obtain ⟨p, rfl⟩ := rowAddressPulseStart_cases h
    exact .stands .of_same
  case addressPulseEnd => rw [rowAddressPulseEnd_cases h]; exact .stands .of_same
  case rampTick => rw [rowRampTick_cases h]; exact .stands .of_same
  case hvokSeen =>
    obtain ⟨-, rfl⟩ := rowHvokSeen_cases h
    exact .emptied s.enterClearing_bus
  case hvokLost => exact .emptied (rowHvokLost_cases h).bus
  case hvocSeen => exact .emptied (rowHvocSeen_cases h).bus
  case groupStrike => exact .emptied (rowGroupStrike_cases h).bus
  case chargeTimeout => exact .emptied (rowChargeTimeout_cases h).bus
  case restEnd =>
    obtain ⟨-, ⟨-, rfl⟩ | ⟨-, rfl⟩⟩ := rowRestEnd_cases h
    exacts [.emptied s.barNoGroups_bus, .stands .of_same]
  case litDurationExpiry =>
    obtain ⟨-, rfl⟩ := rowLitDurationExpiry_cases h
    exact .stands .of_same
  case refreshDue => rw [rowRefreshDue_cases h]; exact .refreshDue
  case refreshDone =>
    obtain ⟨hc, rfl⟩ := rowRefreshDone_cases h
    exact .refreshDone hc
  case grantDecision => exact .decided h
  case reportBlockGrant =>
    obtain ⟨hc, rfl⟩ := rowReportBlockGrant_cases h
    exact .stands ⟨rfl, rfl, rfl, (MemoryPort.grantClass_some hc).symm, rfl, rfl, rfl, rfl, rfl⟩
  case reportBlockDone =>
    obtain ⟨words, hc, rfl⟩ := rowReportBlockDone_cases h
    have hd := State.drivenDram_block (State.portDrives_reportBlock hc)
    exact .ended (MemoryPort.grantClass_some hc) (.of_dram (s := s.endGrant) (by simp [hd]) .of_same)
  case imageGrantDone =>
    obtain ⟨n, u, hc, hu, hnext⟩ := rowImageGrantDone_cases h
    have hd := State.drivenDram_block (State.portDrives_image hc)
    have k : s.accessed.KeepsBus u := .of_dram (s := s.endGrant) (hu ▸ hd) (by rw [hu]; exact .of_same)
    obtain ⟨-, rfl⟩ | rfl := hnext <;> exact .ended (MemoryPort.grantClass_some hc) (k.trans .of_same)
  case copyReadDone =>
    obtain ⟨a, ⟨hc, rfl⟩ | ⟨hc, -, ⟨-, rfl⟩ | ⟨-, rfl⟩⟩⟩ := rowCopyReadDone_cases h <;>
      exact .ended (MemoryPort.grantClass_some hc)
        ((State.endGrant_bus (State.drivenDram_read (State.portDrives_copyRead hc))).trans .of_same)
  case copyPlaceGiven =>
    obtain ⟨w, -, -, rfl⟩ := rowCopyPlaceGiven_cases h
    exact .stands .of_same
  case copyWriteDone =>
    obtain ⟨a, w, ⟨hc, rfl⟩ | ⟨hc, v, d, q, -, -, rfl⟩⟩ := rowCopyWriteDone_cases h
    · exact .ended (MemoryPort.grantClass_some hc) (State.orphanCopyWritten_bus (State.portDrives_copyWrite hc))
    · exact .ended (MemoryPort.grantClass_some hc) (State.copyWritten_bus (State.portDrives_copyWrite hc) q d)
  case presented =>
    obtain ⟨hn, ⟨a, rfl⟩ | ⟨a, v, b, w, rfl⟩⟩ := takePresented_cases h
    exacts [.takes (State.takeRead_takes hn a), .takes (State.takeWrite_takes hn a v b w)]

end Sys2Proof.Machine
end

section
/-! PROOFS. Every step keeps the passage with its one access (R51, R58–R60, R66) and the memory port (R112, R113, R116). -/

namespace Sys2Proof.Machine

variable {s t : State}

/-! ### The bus stands -/

theorem State.KeepsBus.passing (k : s.KeepsBus t) :
    t.port.current = some .passthrough ↔ s.port.current = some .passthrough := by
  rw [← MemoryPort.grantClass_passthrough, k.grant, MemoryPort.grantClass_passthrough]

theorem State.KeepsBus.refreshing (k : s.KeepsBus t) :
    t.port.current = some .refresh ↔ s.port.current = some .refresh := by
  rw [← MemoryPort.grantClass_refresh, k.grant, MemoryPort.grantClass_refresh]

theorem State.KeepsBus.idle (k : s.KeepsBus t) : t.port.current = none ↔ s.port.current = none := by
  rw [← MemoryPort.grantClass_idle, k.grant, MemoryPort.grantClass_idle]

theorem State.KeepsBus.passageOk (k : s.KeepsBus t) (h : s.PassageOk) : t.PassageOk := by
  constructor <;> simp only [k.por, k.passage, k.passWaiting, k.passing]
  exacts [h.rdy, h.single, h.stall, h.request, h.once]

theorem State.KeepsBus.portOk (k : s.KeepsBus t) (h : s.PortOk) : t.PortOk := by
  obtain ⟨hw, hr, ht⟩ := k.refresh
  constructor <;> simp only [k.por, k.deciding, k.idle, k.refreshing, hw, hr, ht]
  exacts [h.deciding, h.refresh, h.timer]

/-! ### The passage at each of its operations -/

/-- At an emptying a write keeps the bus without a place (R64, R66). -/
theorem Passage.emptied_spec {p : Passage} (h : p.stallTimer.isSome = p.holds) :
    p.emptied.inHand.isSome = p.inHand.isSome ∧ p.emptied.presented = p.presented ∧ p.emptied.rdy = p.rdy ∧
      p.emptied.stallTimer.isSome = false ∧ p.emptied.holds = false := by
  by_cases hh : ∃ a l w, p.inHand = some (.write a l w .held)
  · obtain ⟨a, l, w, hc⟩ := hh
    simp [Passage.emptied, Passage.holds, hc]
  · by_cases hp : ∃ a l w, p.inHand = some (.write a l w .placed)
    · obtain ⟨a, l, w, hc⟩ := hp
      rw [Passage.holds_of_inHand hc] at h
      simp [Passage.emptied, Passage.holds, hc, h, BusCycle.isHeld]
    · obtain ⟨he, hn⟩ := Passage.emptied_other (fun a l w hc => hh ⟨a, l, w, hc⟩) fun a l w hc => hp ⟨a, l, w, hc⟩
      rw [he]
      exact ⟨rfl, rfl, rfl, h.trans hn, hn⟩

theorem State.PassageOk.emptyWork (h : s.PassageOk) : s.emptyWork.PassageOk := by
  obtain ⟨hhand, hpres, hrdy, hstall, hholds⟩ := Passage.emptied_spec h.stall
  have hgrant : s.emptyWork.port.current = some .passthrough ↔ s.port.current = some .passthrough := by
    rw [← MemoryPort.grantClass_passthrough, ← MemoryPort.grantClass_passthrough]
    exact iff_of_eq (congrArg (· = GrantClass.passthrough) s.port.dropRender_grantClass)
  have hwait : s.emptyWork.port.passWaiting = (s.port.passWaiting || s.passage.holds) := rfl
  have hpass : s.emptyWork.passage = s.passage.emptied := rfl
  have hhold : s.passage.holds = true → s.passage.inHand.isSome = true := by
    unfold Passage.holds
    split
    · rename_i hc; simp [hc]
    · simp
  constructor <;> simp only [State.emptyWork_keeps, hgrant, hwait, hpass, hpres, hrdy, hstall, hholds, hhand,
    ← Option.not_isSome]
  · simpa only [Option.not_isSome] using h.rdy
  · exact h.single
  all_goals
    intro hp
    have hreq := h.request hp
    have honce := h.once hp
    cases hh : s.passage.holds <;> simp_all

/-- R51, R58, R60: a cycle that had no access is in hand with one, or waits HELD. -/
theorem State.PassageOk.takes (h : s.PassageOk) (hp : s.por = false) (k : s.TakesCycle t) : t.PassageOk := by
  obtain ⟨hfree, c, stall, hstall, k⟩ := k
  refine k.passageOk ?_
  have hnone : ¬(s.port.passWaiting = true ∨ s.port.current = some .passthrough) := by
    rw [h.request hp]
    rintro ⟨hc, hh⟩
    obtain hn | hw := hfree
    · rw [hn] at hc; cases hc
    · rw [hw] at hh; cases hh
  rw [not_or] at hnone
  have hholds : (s.withCycle c stall).passage.holds = c.isHeld := Passage.holds_of_inHand rfl
  refine ⟨?_, fun _ => rfl, (hstall h.stall).trans hholds.symm, fun _ => ?_, fun _ hx => hnone.2 hx.2⟩
  · simp [State.withCycle]
  · rw [hholds]
    simp [State.withCycle, hnone.1, hnone.2]

/-- The end of a grant that is not the passage's. -/
theorem State.PassageOk.accessed (h : s.PassageOk) (hg : s.port.current ≠ some .passthrough) : s.accessed.PassageOk where
  rdy := h.rdy
  single := h.single
  stall := h.stall
  request hp := by
    refine Iff.trans (or_congr_right ?_) (h.request hp)
    exact ⟨(fun e => nomatch e), fun e => absurd e hg⟩
  once _ hx := nomatch hx.2

/-- The end of the passage's own grant, with its cycle (R51). -/
theorem State.PassageOk.cycleEnded (h : s.PassageOk) (hp : s.por = false) (hc : s.port.current = some .passthrough)
    (busData count : Word) : State.PassageOk { s.accessed.endCycle with passage := { s.accessed.endCycle.passage with
      busData := busData, guardedWrites := count } } := by
  have hwait : ¬s.port.passWaiting = true := fun hw => h.once hp ⟨hw, hc⟩
  have hpres := h.single ((h.request hp).1 (.inr hc)).1
  refine ⟨?_, (fun e => nomatch e), rfl, fun _ => ⟨fun hx => ?_, fun hx => nomatch hx.1⟩, fun _ hx => nomatch hx.2⟩
  · change true = (!s.por && true && s.passage.presented.isNone)
    rw [hp, hpres]; rfl
  · obtain hx | hx := hx
    exacts [absurd hx hwait, nomatch hx]

/-! ### The port's decision (R112, R113) -/

/-- A decision moves the passage's request from the waiting set to the grant, or leaves it waiting. -/
theorem rowGrantDecision_pass (h : rowGrantDecision s = some t) : s.port.current ≠ some .passthrough ∧
    ((t.port.passWaiting = s.port.passWaiting ∧ t.port.current ≠ some .passthrough) ∨
      (s.port.passWaiting = true ∧ t.port.passWaiting = false ∧ t.port.current = some .passthrough)) := by
  obtain ⟨hc, q, rfl, ⟨-, -, rfl⟩ | ⟨g, hg, hq⟩⟩ := rowGrantDecision_cases h
  · exact ⟨by simp [hc], .inl ⟨rfl, by simp [hc]⟩⟩
  · refine ⟨by simp [hc], ?_⟩
    have hw : q.passWaiting = g.passWaiting ∧ q.current = g.current := by rcases hq with rfl | rfl <;> exact ⟨rfl, rfl⟩
    dsimp only
    rw [hw.1, hw.2]
    rcases (s.port.mem_candidates g).1 hg with ⟨-, rfl⟩ | ⟨hp, rfl⟩ | ⟨r, -, rfl⟩ | ⟨a, -, rfl⟩ | ⟨a, -, rfl⟩
    · exact .inl ⟨rfl, fun e => nomatch e⟩
    · exact .inr ⟨hp, rfl, rfl⟩
    · cases r <;> exact .inl ⟨rfl, fun e => nomatch e⟩
    · exact .inl ⟨rfl, fun e => nomatch e⟩
    · exact .inl ⟨rfl, fun e => nomatch e⟩

/-- A decision moves the refresh from the waiting set to the grant, or leaves it waiting. -/
theorem rowGrantDecision_refresh (h : rowGrantDecision s = some t) : s.port.current ≠ some .refresh ∧
    ((t.port.refreshWaiting = s.port.refreshWaiting ∧ t.port.current ≠ some .refresh) ∨
      (s.port.refreshWaiting = true ∧ t.port.current = some .refresh)) := by
  obtain ⟨hc, q, rfl, ⟨-, -, rfl⟩ | ⟨g, hg, hq⟩⟩ := rowGrantDecision_cases h
  · exact ⟨by simp [hc], .inl ⟨rfl, by simp [hc]⟩⟩
  · refine ⟨by simp [hc], ?_⟩
    have hw : q.refreshWaiting = g.refreshWaiting ∧ q.current = g.current := by
      rcases hq with rfl | rfl <;> exact ⟨rfl, rfl⟩
    dsimp only
    rw [hw.1, hw.2]
    rcases (s.port.mem_candidates g).1 hg with ⟨hp, rfl⟩ | ⟨-, rfl⟩ | ⟨r, -, rfl⟩ | ⟨a, -, rfl⟩ | ⟨a, -, rfl⟩
    · exact .inr ⟨hp, rfl⟩
    · exact .inl ⟨rfl, fun e => nomatch e⟩
    · cases r <;> exact .inl ⟨rfl, fun e => nomatch e⟩
    · exact .inl ⟨rfl, fun e => nomatch e⟩
    · exact .inl ⟨rfl, fun e => nomatch e⟩

/-- A decision is made with no grant in progress; it leaves what falls due and everything outside the port. -/
theorem rowGrantDecision_port (h : rowGrantDecision s = some t) : s.port.current = none ∧ t.port.deciding = false ∧
    t.port.pendingRefresh = s.port.pendingRefresh ∧ t.port.refreshTimer = s.port.refreshTimer ∧
    t.por = s.por ∧ t.dram = s.dram ∧ t.passage = s.passage := by
  obtain ⟨hc, q, rfl, ⟨-, -, rfl⟩ | ⟨g, hg, hq⟩⟩ := rowGrantDecision_cases h
  · exact ⟨hc, rfl, rfl, rfl, rfl, rfl, rfl⟩
  · rcases (s.port.mem_candidates g).1 hg with ⟨-, rfl⟩ | ⟨-, rfl⟩ | ⟨r, -, rfl⟩ | ⟨a, -, rfl⟩ | ⟨a, -, rfl⟩ <;>
      rcases hq with rfl | rfl <;> exact ⟨hc, rfl, rfl, rfl, rfl, rfl, rfl⟩

theorem State.PassageOk.decided (h : s.PassageOk) (hp : s.por = false) (hd : rowGrantDecision s = some t) :
    t.PassageOk := by
  obtain ⟨hn, hw⟩ := rowGrantDecision_pass hd
  obtain ⟨-, -, -, -, hpor, -, hpass⟩ := rowGrantDecision_port hd
  have hreq := h.request hp
  constructor <;> simp only [hpor, hpass]
  · exact h.rdy
  · exact h.single
  · exact h.stall
  all_goals
    intro _
    rcases hw with ⟨hw, hc⟩ | ⟨hs, hw, hc⟩ <;> simp_all

/-! ### The memory port -/

theorem State.PortOk.emptyWork (h : s.PortOk) : s.emptyWork.PortOk := by
  have hclass : s.emptyWork.port.grantClass = s.port.grantClass := s.port.dropRender_grantClass
  constructor <;> simp only [← MemoryPort.grantClass_idle, ← MemoryPort.grantClass_refresh, hclass, State.emptyWork_keeps]
  · simpa only [MemoryPort.grantClass_idle] using h.deciding
  · simpa only [MemoryPort.grantClass_refresh] using h.refresh
  · exact h.timer

theorem State.PortOk.withCycle (h : s.PortOk) (c : BusCycle) (stall : Timer) : (s.withCycle c stall).PortOk :=
  ⟨h.deciding, h.refresh, h.timer⟩

/-- The end of a grant that is not a refresh. -/
theorem State.PortOk.accessed (h : s.PortOk) (hg : s.port.current ≠ some .refresh) : s.accessed.PortOk where
  deciding _ _ := rfl
  refresh hp := by
    refine Iff.trans (h.refresh hp) (or_congr_right ?_)
    exact ⟨fun e => absurd e hg, fun e => nomatch e⟩
  timer := h.timer

theorem State.PortOk.decided (h : s.PortOk) (hp : s.por = false) (hd : rowGrantDecision s = some t) : t.PortOk := by
  obtain ⟨hn, hw⟩ := rowGrantDecision_refresh hd
  obtain ⟨-, hdec, hpend, htimer, -, -, -⟩ := rowGrantDecision_port hd
  have hreq := h.refresh hp
  refine ⟨fun _ e => ?_, fun _ => ?_, fun _ => htimer.trans (h.timer hp)⟩
  · rw [hdec] at e; cases e
  · rw [hpend, hreq]
    rcases hw with ⟨hw, hc⟩ | ⟨hs, hc⟩ <;> simp [*]

/-! ### The rows -/

theorem State.BusStep.passageOk (k : s.BusStep t) (hp : s.por = false) (h : s.PassageOk) : t.PassageOk := by
  cases k with
  | stands k => exact k.passageOk h
  | emptied k => exact k.passageOk h.emptyWork
  | takes k => exact h.takes hp k
  | ended hg k =>
    refine k.passageOk (h.accessed fun hc => ?_)
    rw [MemoryPort.grantClass_some hc] at hg
    cases hg
  | cycleEnded busData count hc k => exact k.passageOk (h.cycleEnded hp hc busData count)
  | refreshDue => exact ⟨h.rdy, h.single, h.stall, h.request, h.once⟩
  | refreshDone hc =>
    have ha := h.accessed (by simp [hc])
    exact ⟨ha.rdy, ha.single, ha.stall, ha.request, ha.once⟩
  | decided hd => exact h.decided hp hd

theorem State.BusStep.portOk (k : s.BusStep t) (hp : s.por = false) (h : s.PortOk) : t.PortOk := by
  cases k with
  | stands k => exact k.portOk h
  | emptied k => exact k.portOk h.emptyWork
  | takes k =>
    obtain ⟨-, c, stall, -, k⟩ := k
    exact k.portOk (h.withCycle c stall)
  | ended hg k =>
    refine k.portOk (h.accessed fun hc => ?_)
    rw [MemoryPort.grantClass_some hc] at hg
    cases hg
  | cycleEnded busData count hc k =>
    have ha := h.accessed (by simp [hc])
    exact k.portOk ⟨ha.deciding, ha.refresh, ha.timer⟩
  | refreshDue => exact ⟨h.deciding, fun _ => ⟨fun _ => .inl rfl, fun _ => rfl⟩, fun _ => rfl⟩
  | refreshDone hc =>
    refine ⟨fun _ _ => rfl, fun _ => ⟨.inl, fun hx => ?_⟩, h.timer⟩
    obtain hx | hx := hx
    exacts [hx, nomatch hx]
  | decided hd => exact h.decided hp hd

/-- A cycle that is presented and not taken (R51, R66). -/
theorem State.PassageOk.present (h : s.PassageOk) (hn : s.passage.inHand = none) (c : PresentedCycle) :
    (s.present c).PassageOk := by
  refine ⟨?_, fun e => ?_, h.stall, h.request, h.once⟩
  · simp [State.present]
  · change s.passage.inHand.isSome = true at e
    rw [hn] at e; cases e

/-- What the pins' rows do to the bus, POR and a cycle presented apart. -/
theorem rowSysclr_bus (h : rowSysclr s = some t) : s.KeepsBus t ∨ (s.por = false ∧ s.emptyWork.KeepsBus t) := by
  obtain ⟨-, rfl⟩ | ⟨hp, rfl⟩ := rowSysclr_cases h
  · exact .inl (.of_same rfl rfl rfl rfl rfl rfl ⟨rfl, rfl, rfl⟩)
  · refine .inr ⟨hp, (s.abortCopy_bus.emptyWork.trans s.abortCopy.enterDark_bus).trans ?_⟩
    exact .of_same rfl rfl rfl rfl rfl rfl ⟨rfl, rfl, rfl⟩

theorem PinRow.passageOk {row : State → Option State} (hr : PinRow row) (hs : s.PassageOk) (h : row s = some t) :
    t.PassageOk := by
  cases hr
  case porAssert =>
    obtain ⟨-, rfl⟩ := rowPorAssert_cases h
    exact ⟨rfl, (fun e => nomatch e), rfl, (fun e => nomatch e), fun e => nomatch e⟩
  case porEnd straps =>
    obtain ⟨-, rfl⟩ := rowPorEnd_cases h
    exact ⟨rfl, (fun e => nomatch e), rfl, fun _ => by simp [State.porEnded, State.reset, Passage.por, MemoryPort.por],
      fun _ hx => nomatch hx.2⟩
  case sysclr =>
    obtain k | ⟨-, k⟩ := rowSysclr_bus h
    exacts [k.passageOk hs, k.passageOk hs.emptyWork]
  case sysclrNegate =>
    rw [rowSysclrNegate_cases h]
    exact State.KeepsBus.passageOk (s := s) .of_same hs
  case busRead =>
    obtain ⟨hn, rfl | ⟨hp, rfl⟩⟩ := rowBusRead_cases h
    exacts [hs.present hn _, hs.takes hp (State.takeRead_takes hn _)]
  case busWrite =>
    obtain ⟨hn, rfl | ⟨hp, rfl⟩⟩ := rowBusWrite_cases h
    exacts [hs.present hn _, hs.takes hp (State.takeWrite_takes hn _ _ _ _)]
  case faultInputChange =>
    obtain ⟨_, _, _, _, _, _, _, _, rfl⟩ := rowFaultInputChange_cases h
    exact State.KeepsBus.passageOk (s := s) .of_same hs

theorem PinRow.portOk {row : State → Option State} (hr : PinRow row) (hs : s.PortOk) (h : row s = some t) :
    t.PortOk := by
  cases hr
  case porAssert =>
    obtain ⟨-, rfl⟩ := rowPorAssert_cases h
    exact ⟨(fun e => nomatch e), (fun e => nomatch e), fun e => nomatch e⟩
  case porEnd straps =>
    obtain ⟨-, rfl⟩ := rowPorEnd_cases h
    exact ⟨fun _ _ => rfl, fun _ => by simp [State.porEnded, State.reset, MemoryPort.por], fun _ => rfl⟩
  case sysclr =>
    obtain k | ⟨-, k⟩ := rowSysclr_bus h
    exacts [k.portOk hs, k.portOk hs.emptyWork]
  case sysclrNegate =>
    rw [rowSysclrNegate_cases h]
    exact State.KeepsBus.portOk (s := s) .of_same hs
  case busRead =>
    obtain ⟨-, rfl | ⟨-, rfl⟩⟩ := rowBusRead_cases h <;> exact ⟨hs.deciding, hs.refresh, hs.timer⟩
  case busWrite =>
    obtain ⟨-, rfl | ⟨-, rfl⟩⟩ := rowBusWrite_cases h
    · exact ⟨hs.deciding, hs.refresh, hs.timer⟩
    · constructor <;> simp only [State.takeWrite_keeps]
      exacts [hs.deciding, hs.refresh, hs.timer]
  case faultInputChange =>
    obtain ⟨_, _, _, _, _, _, _, _, rfl⟩ := rowFaultInputChange_cases h
    exact State.KeepsBus.portOk (s := s) .of_same hs

theorem State.afterEvent_bus (s : State) : s.KeepsBus s.afterEvent := .of_same

/-- R51, R58–R60, R66: every row keeps the passage with its one access. -/
theorem passageOk_kept : KeptByRows State.PassageOk where
  pin hr hs h := hr.passageOk hs h
  inner hr hp hs h := (hr.busStep h).passageOk hp hs
  after {s} hs := s.afterEvent_bus.passageOk hs
  pending {s _} hs := State.KeepsBus.passageOk (s := s) .of_same hs

/-- R112, R113, R116: every row keeps the memory port's decision and its refresh. -/
theorem portOk_kept : KeptByRows State.PortOk where
  pin hr hs h := hr.portOk hs h
  inner hr hp hs h := (hr.busStep h).portOk hp hs
  after {s} hs := s.afterEvent_bus.portOk hs
  pending {s _} hs := State.KeepsBus.portOk (s := s) .of_same hs

end Sys2Proof.Machine
end

section
/-! PROOFS. Every step keeps memory canonical and ATN and HVEN true to their meaning (R95, R152, R155); with the passage and
the port this settles what every step keeps of the bus. -/

namespace Sys2Proof.Machine

variable {s t u : State}

/-! ### Memory -/

theorem State.emptyWork_current_none (s : State) : s.emptyWork.port.current = none ↔ s.port.current = none := by
  rw [← MemoryPort.grantClass_idle, ← MemoryPort.grantClass_idle]
  exact iff_of_eq (congrArg (· = GrantClass.idle) s.port.dropRender_grantClass)

/-- R114: memory stands while the grant in progress goes on, and is as its write strobes leave it when it has ended. -/
theorem State.BusStep.dram (k : s.BusStep t) :
    (t.dram = s.dram ∧ (t.port.current = none → s.port.current = none)) ∨ t.dram = s.drivenDram := by
  cases k with
  | stands k => exact .inl ⟨k.dram, k.idle.1⟩
  | emptied k => exact .inl ⟨k.dram, fun e => s.emptyWork_current_none.1 (k.idle.1 e)⟩
  | takes k =>
    obtain ⟨-, c, stall, -, k⟩ := k
    exact .inl ⟨k.dram, k.idle.1⟩
  | ended hg k => exact .inr k.dram
  | cycleEnded busData count hc k => exact .inr k.dram
  | refreshDue => exact .inl ⟨rfl, id⟩
  | refreshDone hc =>
    refine .inr ?_
    rw [State.drivenDram, State.portDrives_refresh hc]
    rfl
  | decided hd =>
    obtain ⟨hc, -, -, -, -, hdram, -⟩ := rowGrantDecision_port hd
    exact .inl ⟨hdram, fun _ => hc⟩

theorem State.BusStep.memoryOk (k : s.BusStep t) (h : s.MemoryOk) : t.MemoryOk := by
  obtain ⟨hd, -⟩ | hd := k.dram
  · exact (congrArg (fun m => Memory.wf m = true) hd).mpr h
  · exact (congrArg (fun m => Memory.wf m = true) hd).mpr (State.drivenDram_wf h)

theorem PinRow.memoryOk {row : State → Option State} (hr : PinRow row) (hs : s.MemoryOk) (h : row s = some t) :
    t.MemoryOk := by
  have key (hd : t.dram = s.dram) : t.MemoryOk := (congrArg (fun m => Memory.wf m = true) hd).mpr hs
  cases hr
  case porAssert =>
    obtain ⟨-, rfl⟩ := rowPorAssert_cases h
    exact Memory.wf_nil
  case porEnd straps =>
    obtain ⟨-, rfl⟩ := rowPorEnd_cases h
    exact key rfl
  case sysclr =>
    obtain k | ⟨-, k⟩ := rowSysclr_bus h
    exacts [key k.dram, key k.dram]
  case sysclrNegate => exact key (by rw [rowSysclrNegate_cases h])
  case busRead => obtain ⟨-, rfl | ⟨-, rfl⟩⟩ := rowBusRead_cases h <;> exact key rfl
  case busWrite => obtain ⟨-, rfl | ⟨-, rfl⟩⟩ := rowBusWrite_cases h <;> exact key (by simp)
  case faultInputChange =>
    obtain ⟨_, _, _, _, _, _, _, _, rfl⟩ := rowFaultInputChange_cases h
    exact key rfl

/-- Every row keeps memory canonical. -/
theorem memoryOk_kept : KeptByRows State.MemoryOk where
  pin hr hs h := hr.memoryOk hs h
  inner hr _ hs h := (hr.busStep h).memoryOk hs
  after {s} hs := (congrArg (fun m => Memory.wf m = true) (by simp : s.afterEvent.dram = s.dram)).mpr hs
  pending hs := hs

/-! ### ATN and HVEN while POR is negated -/

/-- R152: ATN is what the pending causes and the enables make of it. -/
def State.AtnDecided (s : State) : Prop := s.report.atn = decide (s.report.causes &&& s.standing.enables ≠ 0)

/-- R95: HVEN is on in the powered states. -/
def State.HvenPowered (s : State) : Prop := s.seq.hven = s.seq.panel.powered

theorem State.outputsOk_iff (hp : s.por = false) : s.OutputsOk ↔ s.AtnDecided ∧ s.HvenPowered := by
  unfold State.AtnDecided State.HvenPowered
  constructor
  · intro h
    exact ⟨by simpa [hp] using h.atn, by simpa [hp] using h.hven⟩
  · rintro ⟨ha, hh⟩
    exact ⟨by simpa [hp] using ha, by simpa [hp] using hh⟩

/-- Between `s` and `t` ATN and HVEN stayed true to their meaning. -/
structure State.KeepsOutputs (s t : State) : Prop where
  por : t.por = s.por
  atn : s.AtnDecided → t.AtnDecided
  hven : s.HvenPowered → t.HvenPowered

theorem State.KeepsOutputs.trans (h : s.KeepsOutputs t) (k : t.KeepsOutputs u) : s.KeepsOutputs u :=
  ⟨k.por.trans h.por, k.atn ∘ h.atn, k.hven ∘ h.hven⟩

theorem State.AtnDecided.of_same (h : s.AtnDecided) (ha : t.report.atn = s.report.atn := by simp)
    (hc : t.report.causes = s.report.causes := by simp) (hs : t.standing = s.standing := by simp) : t.AtnDecided := by
  unfold State.AtnDecided
  rw [ha, hc, hs]
  exact h

theorem State.HvenPowered.of_same (h : s.HvenPowered) (hv : t.seq.hven = s.seq.hven := by simp)
    (hp : t.seq.panel = s.seq.panel := by simp) : t.HvenPowered := by
  unfold State.HvenPowered
  rw [hv, hp]
  exact h

/-- The panel moves between two powered states. -/
theorem State.HvenPowered.of_powered (h : s.HvenPowered) (hs : s.seq.panel.powered = true)
    (ht : t.seq.panel.powered = true) (hv : t.seq.hven = s.seq.hven) : t.HvenPowered := by
  unfold State.HvenPowered at *
  rw [hv, h, hs, ht]

/-- Nothing moved that the two pins show. -/
theorem State.KeepsOutputs.of_same (hp : t.por = s.por := by simp) (ha : t.report.atn = s.report.atn := by simp)
    (hc : t.report.causes = s.report.causes := by simp) (hs : t.standing = s.standing := by simp)
    (hv : t.seq.hven = s.seq.hven := by simp) (hl : t.seq.panel = s.seq.panel := by simp) : s.KeepsOutputs t :=
  ⟨hp, fun h => h.of_same ha hc hs, fun h => h.of_same hv hl⟩

theorem State.KeepsOutputs.refl (s : State) : s.KeepsOutputs s := ⟨rfl, id, id⟩

theorem State.enterCause_outputs (s : State) (c : Cause) : s.KeepsOutputs (s.enterCause c) :=
  ⟨by simp, fun _ => rfl, fun h => h.of_same⟩

theorem State.softRestart_outputs (hs : s.seq.panel.powered = true) : s.KeepsOutputs s.softRestart :=
  ⟨rfl, fun h => h.of_same rfl rfl rfl, fun h => h.of_powered hs rfl rfl⟩

theorem State.enterClearing_outputs (hs : s.seq.panel = .charging) : s.KeepsOutputs s.enterClearing :=
  ⟨rfl, fun h => h.of_same rfl rfl rfl, fun h => h.of_powered (by rw [hs]; rfl) rfl rfl⟩

theorem State.enterCharging_outputs (s : State) : s.KeepsOutputs s.enterCharging :=
  ⟨rfl, fun h => h.of_same rfl rfl rfl, fun _ => rfl⟩

theorem State.enterDark_outputs (s : State) : s.KeepsOutputs s.enterDark :=
  ⟨rfl, fun h => h.of_same rfl rfl rfl, fun _ => rfl⟩

theorem State.enterLit_outputs (hs : s.seq.panel = .clearing) : s.KeepsOutputs s.enterLit :=
  ⟨rfl, fun _ => rfl, fun h => h.of_powered (by rw [hs]; rfl) rfl rfl⟩

/-- R102: a recovery switches the supply off. -/
theorem State.recover_hven (s : State) : s.recover.HvenPowered := by
  obtain ⟨-, e⟩ | ⟨-, e⟩ := s.recover_cases <;> rw [e] <;> rfl

theorem State.recover_atn (h : s.AtnDecided) : s.recover.AtnDecided := by
  obtain ⟨-, e⟩ | ⟨-, e⟩ := s.recover_cases <;> rw [e]
  exacts [rfl, h.of_same rfl rfl rfl]

theorem State.barNoGroups_outputs (hs : s.seq.panel = .resting) : s.KeepsOutputs s.barNoGroups := by
  refine ⟨rfl, fun _ => rfl, fun h => ?_⟩
  unfold State.HvenPowered at h
  rw [hs] at h
  exact h

theorem State.Faults.outputs (h : s.Faults t) : s.KeepsOutputs t := by
  obtain ⟨-, q, k, -, rfl⟩ := h
  exact ⟨by simp, fun _ => State.recover_atn rfl, fun _ => State.recover_hven _⟩

theorem State.noteErases_outputs (s : State) : s.KeepsOutputs s.noteErases := by
  have k : s.KeepsOutputs { s with seq := { s.seq with erasesDone := true } } := .of_same
  obtain ⟨-, e⟩ | ⟨-, -, e⟩ | ⟨hc, -, e⟩ := s.noteErases_cases <;> rw [e]
  exacts [.refl s, k, k.trans (State.enterLit_outputs hc)]

theorem State.noteWipe_outputs (s : State) : s.KeepsOutputs s.noteWipe := by
  have k : s.KeepsOutputs { s with seq := { s.seq with wipeDone := true } } := .of_same
  obtain ⟨-, e⟩ | ⟨-, -, e⟩ | ⟨hc, -, e⟩ := s.noteWipe_cases <;> rw [e]
  exacts [.refl s, k, k.trans (State.enterLit_outputs hc)]

theorem State.slot_outputs (s : State) : s.KeepsOutputs s.openCycle.slot := by
  have k : s.KeepsOutputs s.openCycle := .of_same
  refine k.trans ?_
  obtain e | ⟨-, -, e⟩ | ⟨head, rest, -, -, e⟩ := s.openCycle.slot_cases <;> rw [e]
  · exact .refl _
  · have ke : s.openCycle.KeepsOutputs s.openCycle.erasing := .of_same rfl rfl rfl rfl rfl rfl
    obtain ⟨-, e⟩ | ⟨-, e⟩ := s.openCycle.globalErase_cases <;> rw [e]
    exacts [ke, ke.trans (State.noteErases_outputs _)]
  · exact .of_same rfl rfl rfl rfl rfl rfl

theorem State.recordCommand_outputs (s : State) (code : Byte) (o : CommandOutcome) :
    s.KeepsOutputs (s.recordCommand code o) := by
  have k : s.KeepsOutputs (State.reportDue { s with control := { s.control with lastCode := code, lastOutcome := o } }) :=
    .of_same
  unfold State.recordCommand
  dsimp only
  split
  exacts [k, k.trans (State.enterCause_outputs _ _)]

theorem State.endCopy_outputs (s : State) (o : CopyOutcome) : s.KeepsOutputs (s.endCopy o) := by
  have k : s.KeepsOutputs { s with copy := { s.copy with outcome := o, step := .none, cancelling := false } } := .of_same
  unfold State.endCopy
  dsimp only
  split
  exacts [k.trans .of_same, k.trans (State.enterCause_outputs _ _)]

theorem State.afterEvent_outputs (s : State) (hp : s.por = false) : s.KeepsOutputs s.afterEvent := by
  by_cases hq : s.AllQuiet
  · rw [State.afterEvent_of_allQuiet hp hq]
    exact State.KeepsOutputs.trans (t := { s.idleCount with report := { s.idleCount.report with quietArmed := false } })
      .of_same (State.enterCause_outputs _ _)
  · rw [State.afterEvent_of_not_allQuiet hp hq]
    exact .of_same

/-! ### Completed writes -/

theorem State.overflow_outputs (s : State) (a : Addr) (l : Lanes) : s.KeepsOutputs (s.overflow a l) := by
  have k (c : CaptureList) : s.KeepsOutputs (State.enterCause { s with capture := c } .overflow) :=
    State.KeepsOutputs.trans (t := { s with capture := c }) .of_same (State.enterCause_outputs _ _)
  cases h : s.standing.overflowLines a l with
  | none => rw [State.overflow_of_none h]; exact k _
  | some ls => rw [State.overflow_of_some h]; exact (k _).trans (.of_same rfl rfl rfl rfl rfl rfl)

theorem State.pictureWritten_outputs (s : State) (a : Addr) (l : Lanes) (w : Word) (d : GuardDecision) :
    s.KeepsOutputs (s.pictureWritten a l w d) := by
  unfold State.pictureWritten
  split
  · split
    · exact .of_same
    · split
      exacts [.of_same, s.overflow_outputs a l]
    all_goals exact s.overflow_outputs a l
  · exact .of_same

theorem State.landed_outputs (s : State) (a : Addr) (l : Lanes) (w : Word) (d : GuardDecision) :
    s.KeepsOutputs (s.landed a l w d) := by
  have k : s.KeepsOutputs (s.writeWord a l w) := .of_same
  refine k.trans ?_
  unfold State.landed
  dsimp only
  split
  · exact .of_same rfl rfl rfl rfl rfl rfl
  · exact State.pictureWritten_outputs _ a l w d
  all_goals exact .of_same rfl rfl rfl rfl rfl rfl

theorem State.busWritten_outputs (s : State) (a : Addr) (l : Lanes) (w : Word) (d : GuardDecision) :
    s.KeepsOutputs (s.busWritten a l w d) := by
  unfold State.busWritten
  split
  exacts [.of_same, s.landed_outputs a l w d]

theorem State.orphanCopyWritten_outputs (s : State) (a : Addr) (w : Word) :
    s.KeepsOutputs (s.orphanCopyWritten a w) := by
  unfold State.orphanCopyWritten
  split
  exacts [.refl s, s.landed_outputs a .both w .unplaced]

theorem State.copyWritten_outputs (s : State) (q : CopyRequest) (a : Addr) (w : Word) (d : GuardDecision) :
    s.KeepsOutputs (s.copyWritten q a w d) := by
  unfold State.copyWritten
  split
  · exact State.KeepsOutputs.trans (t := { s with capture := s.capture.release d }) .of_same (State.endCopy_outputs _ _)
  · refine (s.landed_outputs a .both w d).trans ?_
    have k : (s.landed a .both w d).KeepsOutputs ((s.landed a .both w d).copyMoved q) :=
      .of_same rfl rfl rfl rfl rfl rfl
    obtain ⟨-, e⟩ | ⟨-, ⟨-, -, e⟩ | ⟨-, e⟩⟩ := (s.landed a .both w d).copyAdvance_cases q <;> rw [e]
    exacts [k.trans (State.endCopy_outputs _ _), k.trans (State.endCopy_outputs _ _), k.trans .of_same]

theorem State.endGrant_outputs (s : State) : s.KeepsOutputs s.endGrant := .of_same

/-! ### The rows -/

/-- A command, with its take and its record. -/
theorem commandRow_outputs {isMine : Byte → Bool} {act : State → State × CommandOutcome}
    (hact : ∀ u : State, u.KeepsOutputs (act u).1) (h : commandRow isMine act s = some t) : s.KeepsOutputs t :=
  commandRow_keeps (P := fun u => s.KeepsOutputs u) (fun k _ _ => k.trans .of_same)
    (fun k code o => k.trans (State.recordCommand_outputs _ code o)) (fun k => k.trans (hact _)) h
    (State.KeepsOutputs.refl s)

theorem State.doRestart_outputs (s : State) : s.KeepsOutputs s.doRestart.1 := by
  obtain e | ⟨-, e⟩ | ⟨hc, e⟩ := s.doRestart_cases <;> rw [e]
  · exact .refl s
  · exact s.enterCharging_outputs
  · exact State.softRestart_outputs (PanelState.powered_of_addressed (PanelState.addressed_iff.2 hc))

theorem State.doCancelCopy_outputs (s : State) : s.KeepsOutputs s.doCancelCopy.1 := by
  obtain e | ⟨-, -, ⟨-, e⟩ | ⟨-, e⟩⟩ := s.doCancelCopy_cases <;> rw [e]
  · exact .refl s
  · exact .of_same
  · exact State.KeepsOutputs.trans (t := { s with
      port := { s.port with copyWaiting := none }
      capture := s.capture.release s.copy.decision }) .of_same (State.endCopy_outputs _ _)

/-- R152: an applied commit has ATN decided again by the new enables. -/
theorem State.commitApplied_outputs (s : State) (new : ParamSet) : s.KeepsOutputs (s.commitApplied new) :=
  ⟨rfl, fun _ => rfl, fun h => h.of_same rfl rfl⟩

theorem InnerRow.outputs {row : State → Option State} (hr : InnerRow row) (h : row s = some t) : s.KeepsOutputs t := by
  cases hr
  case stallExpiry =>
    obtain ⟨a, l, w, -, rfl⟩ := rowStallExpiry_cases h
    exact .of_same
  case heldWritePlaced =>
    obtain ⟨a, l, w, -, -, rfl⟩ := rowHeldWritePlaced_cases h
    exact .of_same
  case passthroughReadDone =>
    obtain ⟨a, -, -, rfl⟩ := rowPassthroughReadDone_cases h
    exact .of_same
  case passthroughWriteDone =>
    obtain ⟨a, lanes, w, d, -, -, ⟨-, rfl⟩ | ⟨l, -, rfl⟩⟩ := rowPassthroughWriteDone_cases h
    · exact .of_same
    · exact State.KeepsOutputs.trans (t := s.endGrant.endCycle) .of_same (State.busWritten_outputs _ a l w d)
  case stagedWrite =>
    obtain ⟨o, rest, rfl⟩ := rowStagedWrite_cases h
    exact .of_same
  case commit =>
    refine commandRow_outputs (fun u => ?_) h
    obtain e | e | ⟨-, e⟩ := u.doCommit_cases <;> rw [e] <;> exact .of_same
  case restartPanel => exact commandRow_outputs State.doRestart_outputs h
  case stopPanel =>
    refine commandRow_outputs (fun u => ?_) h
    obtain e | e := u.doStop_cases <;> rw [e]
    exacts [.refl u, u.enterDark_outputs]
  case clearFaults =>
    refine commandRow_outputs (fun u => ?_) h
    obtain ⟨f, ⟨-, e⟩ | e⟩ := u.doClearFaults_cases <;> rw [e] <;> exact .of_same
  case release => exact commandRow_outputs (act := State.doRelease) (fun u => ⟨rfl, fun _ => rfl, id⟩) h
  case startCopy =>
    refine commandRow_outputs (fun u => ?_) h
    obtain e | ⟨-, e⟩ := u.doStartCopy_cases <;> rw [e] <;> exact .of_same
  case cancelCopy => exact commandRow_outputs State.doCancelCopy_outputs h
  case resweepAll =>
    refine commandRow_outputs (fun u => ?_) h
    obtain e | e := u.doResweepAll_cases <;> rw [e] <;> exact .of_same
  case reportNow => exact commandRow_outputs State.KeepsOutputs.refl h
  case unknownCommand => exact commandRow_outputs State.KeepsOutputs.refl h
  case commitApply =>
    obtain ⟨new, -, -, ⟨-, ha, rfl⟩ | ⟨-, rfl⟩⟩ := rowCommitApply_cases h
    · exact (s.commitApplied_outputs new).trans (State.softRestart_outputs (PanelState.powered_of_addressed ha))
    · exact s.commitApplied_outputs new
  case captureItem =>
    obtain ⟨r, rest, -, -, -, rfl⟩ := rowCaptureItem_cases h
    exact State.KeepsOutputs.trans (t := s.captureTaken rest) (.of_same rfl rfl rfl rfl rfl rfl) .of_same
  case resweepItem =>
    obtain ⟨c, -, -, -, rfl⟩ := rowResweepItem_cases h
    exact State.KeepsOutputs.trans (t := s.resweepTaken c) (.of_same rfl rfl rfl rfl rfl rfl) .of_same
  case wipeItem =>
    obtain ⟨-, -, -, rfl⟩ := rowWipeItem_cases h
    exact .of_same
  case freeEntryWaitEnd =>
    obtain ⟨-, ⟨r, c, rest, -, rfl⟩ | ⟨c, got, toRead, -, rfl⟩⟩ := rowFreeEntryWaitEnd_cases h <;> exact .of_same
  case pictureReadDone =>
    obtain ⟨a, ⟨-, rfl⟩ | ⟨-, c, got, b, more, -, rfl⟩⟩ := rowPictureReadDone_cases h <;> exact .of_same
  case cellWordReadDone =>
    obtain ⟨a, ⟨-, rfl⟩ | ⟨-, i, c, -, -, -, rfl⟩⟩ := rowCellWordReadDone_cases h <;> exact .of_same
  case writeBackDone =>
    obtain ⟨a, w, ⟨-, rfl⟩ | ⟨-, i, -, rfl⟩⟩ := rowWriteBackDone_cases h <;> exact .of_same
  case wipeWriteDone =>
    have k (a : Addr) : s.KeepsOutputs (s.wipeWritten a) := .of_same rfl rfl rfl rfl rfl rfl
    obtain ⟨a, ⟨-, rfl⟩ | ⟨-, ⟨-, rfl⟩ | ⟨-, rfl⟩⟩⟩ := rowWipeWriteDone_cases h
    exacts [.of_same, k a, (k a).trans (State.noteWipe_outputs _)]
  case sustainCycleStart =>
    obtain ⟨-, rfl⟩ := rowSustainCycleStart_cases h
    exact s.slot_outputs
  case phaseBStart => rw [rowPhaseBStart_cases h]; exact .of_same
  case addressPulseStart =>
    obtain ⟨p, rfl⟩ := rowAddressPulseStart_cases h
    exact .of_same
  case addressPulseEnd => rw [rowAddressPulseEnd_cases h]; exact .of_same
  case rampTick => rw [rowRampTick_cases h]; exact .of_same
  case hvokSeen =>
    obtain ⟨hc, rfl⟩ := rowHvokSeen_cases h
    exact State.enterClearing_outputs hc
  case hvokLost => exact (rowHvokLost_cases h).outputs
  case hvocSeen => exact (rowHvocSeen_cases h).outputs
  case groupStrike => exact (rowGroupStrike_cases h).outputs
  case chargeTimeout => exact (rowChargeTimeout_cases h).outputs
  case restEnd =>
    obtain ⟨hc, ⟨-, rfl⟩ | ⟨-, rfl⟩⟩ := rowRestEnd_cases h
    exacts [State.barNoGroups_outputs hc, s.enterCharging_outputs]
  case litDurationExpiry =>
    obtain ⟨-, rfl⟩ := rowLitDurationExpiry_cases h
    exact .of_same
  case refreshDue => rw [rowRefreshDue_cases h]; exact .of_same
  case refreshDone =>
    obtain ⟨-, rfl⟩ := rowRefreshDone_cases h
    exact .of_same
  case grantDecision =>
    obtain ⟨-, q, rfl, -⟩ := rowGrantDecision_cases h
    exact .of_same
  case reportBlockGrant =>
    obtain ⟨-, rfl⟩ := rowReportBlockGrant_cases h
    exact .of_same
  case reportBlockDone =>
    obtain ⟨words, -, rfl⟩ := rowReportBlockDone_cases h
    exact .of_same
  case imageGrantDone =>
    obtain ⟨n, u, -, rfl, ⟨-, rfl⟩ | rfl⟩ := rowImageGrantDone_cases h <;> exact .of_same
  case copyReadDone =>
    obtain ⟨a, ⟨-, rfl⟩ | ⟨-, -, ⟨-, rfl⟩ | ⟨-, rfl⟩⟩⟩ := rowCopyReadDone_cases h
    · exact s.endGrant_outputs
    · exact s.endGrant_outputs.trans (State.endCopy_outputs _ _)
    · exact .of_same
  case copyPlaceGiven =>
    obtain ⟨w, -, -, rfl⟩ := rowCopyPlaceGiven_cases h
    exact .of_same
  case copyWriteDone =>
    obtain ⟨a, w, ⟨-, rfl⟩ | ⟨-, v, d, q, -, -, rfl⟩⟩ := rowCopyWriteDone_cases h
    · exact s.endGrant_outputs.trans (State.orphanCopyWritten_outputs _ a w)
    · exact s.endGrant_outputs.trans (State.copyWritten_outputs _ q a w d)
  case presented =>
    obtain ⟨-, ⟨a, rfl⟩ | ⟨a, v, b, w, rfl⟩⟩ := takePresented_cases h <;> exact .of_same

/-- While POR lasts the two pins are low. -/
theorem State.OutputsOk.of_same (h : s.OutputsOk) (hp : t.por = s.por := by simp)
    (hr : t.report = s.report := by simp) (hs : t.standing = s.standing := by simp) (hv : t.seq.hven = s.seq.hven := by simp)
    (hl : t.seq.panel = s.seq.panel := by simp) : t.OutputsOk := by
  constructor
  · rw [hr, hp, hs]; exact h.atn
  · rw [hv, hp, hl]; exact h.hven

theorem PinRow.outputsOk {row : State → Option State} (hr : PinRow row) (hs : s.OutputsOk) (h : row s = some t) :
    t.OutputsOk := by
  cases hr
  case porAssert =>
    obtain ⟨-, rfl⟩ := rowPorAssert_cases h
    exact ⟨rfl, rfl⟩
  case porEnd straps =>
    obtain ⟨-, rfl⟩ := rowPorEnd_cases h
    exact (State.outputsOk_iff rfl).2 ⟨by simp [State.AtnDecided, State.porEnded, State.reset, ReportUnit.por], rfl⟩
  case sysclr =>
    obtain ⟨-, rfl⟩ | ⟨hp, rfl⟩ := rowSysclr_cases h
    · exact hs.of_same
    · exact (State.outputsOk_iff (by simpa using hp)).2 ⟨rfl, rfl⟩
  case sysclrNegate => rw [rowSysclrNegate_cases h]; exact hs.of_same
  case busRead => obtain ⟨-, rfl | ⟨-, rfl⟩⟩ := rowBusRead_cases h <;> exact hs.of_same
  case busWrite => obtain ⟨-, rfl | ⟨-, rfl⟩⟩ := rowBusWrite_cases h <;> exact hs.of_same
  case faultInputChange =>
    obtain ⟨_, _, _, _, _, _, _, _, rfl⟩ := rowFaultInputChange_cases h
    exact hs.of_same

theorem State.KeepsOutputs.outputsOk (k : s.KeepsOutputs t) (hp : s.por = false) (h : s.OutputsOk) : t.OutputsOk := by
  obtain ⟨ha, hh⟩ := (State.outputsOk_iff hp).1 h
  exact (State.outputsOk_iff (k.por.trans hp)).2 ⟨k.atn ha, k.hven hh⟩

/-- R95, R152, R155: every row keeps ATN and HVEN true to their meaning. -/
theorem outputsOk_kept : KeptByRows State.OutputsOk where
  pin hr hs h := hr.outputsOk hs h
  inner hr hp hs h := (hr.outputs h).outputsOk hp hs
  after {s} hs := by
    cases hp : s.por with
    | true => simpa only [State.afterEvent, hp, if_true] using hs
    | false => exact (s.afterEvent_outputs hp).outputsOk hp hs
  pending hs := hs.of_same

/-- Settles O55: memory, the outputs, the passage and the port are each kept by every row. -/
theorem everyStepKeepsMemoryOutputsAndPassage : Obligations.EveryStepKeepsMemoryOutputsAndPassage :=
  ⟨fun _ _ h => ⟨step_keeps memoryOk_kept h, step_keeps outputsOk_kept h⟩,
    fun _ _ h => ⟨step_keeps passageOk_kept h, step_keeps portOk_kept h⟩⟩

end Sys2Proof.Machine
end

section
/-! PROOFS. How each command comes about: the due steps it waits for and its row, said once. What the port drives in an access
and leaves in memory at its end (spec/08 8.2). -/

namespace Sys2Proof.Machine

variable {s t u : State}

/-! ### The row of each command -/

/-- The row of a command. -/
def rowOf : Instr → State → Option State
  | .porAssert => rowPorAssert
  | .porEnd straps => rowPorEnd straps
  | .sysclr => rowSysclr
  | .sysclrNegate => rowSysclrNegate
  | .busRead a => rowBusRead a
  | .busWrite a ubs lbs data => rowBusWrite a ubs lbs data
  | .faultInputChange input level => rowFaultInputChange input level
  | .stallExpiry => running rowStallExpiry
  | .heldWritePlaced => running rowHeldWritePlaced
  | .passthroughReadDone => running rowPassthroughReadDone
  | .passthroughWriteDone => running rowPassthroughWriteDone
  | .stagedWrite => running rowStagedWrite
  | .commit => running rowCommit
  | .restartPanel => running rowRestartPanel
  | .stopPanel => running rowStopPanel
  | .clearFaults => running rowClearFaults
  | .release => running rowRelease
  | .startCopy => running rowStartCopy
  | .cancelCopy => running rowCancelCopy
  | .resweepAll => running rowResweepAll
  | .reportNow => running rowReportNow
  | .unknownCommand => running rowUnknownCommand
  | .commitApply => running rowCommitApply
  | .captureItem => running rowCaptureItem
  | .resweepItem => running rowResweepItem
  | .wipeItem => running rowWipeItem
  | .freeEntryWaitEnd => running rowFreeEntryWaitEnd
  | .pictureReadDone => running rowPictureReadDone
  | .cellWordReadDone => running rowCellWordReadDone
  | .writeBackDone => running rowWriteBackDone
  | .wipeWriteDone => running rowWipeWriteDone
  | .sustainCycleStart => running rowSustainCycleStart
  | .phaseBStart => running rowPhaseBStart
  | .addressPulseStart => running rowAddressPulseStart
  | .addressPulseEnd => running rowAddressPulseEnd
  | .rampTick => running rowRampTick
  | .hvokSeen => running rowHvokSeen
  | .hvokLost => running rowHvokLost
  | .hvocSeen => running rowHvocSeen
  | .groupStrike axis g => running (rowGroupStrike axis g)
  | .chargeTimeout => running rowChargeTimeout
  | .restEnd => running rowRestEnd
  | .litDurationExpiry => running rowLitDurationExpiry
  | .refreshDue => running rowRefreshDue
  | .refreshDone => running rowRefreshDone
  | .grantDecision => running rowGrantDecision
  | .reportBlockGrant => running rowReportBlockGrant
  | .reportBlockDone => running rowReportBlockDone
  | .imageGrantDone => running rowImageGrantDone
  | .copyReadDone => running rowCopyReadDone
  | .copyPlaceGiven => running rowCopyPlaceGiven
  | .copyWriteDone => running rowCopyWriteDone

/-- The due steps that a command waits for (logs 2, 21, 38). -/
def dueBefore : Instr → State → Option State
  | .porAssert | .porEnd _ | .heldWritePlaced | .commitApply | .captureItem | .resweepItem | .wipeItem
  | .freeEntryWaitEnd | .reportBlockGrant | .copyPlaceGiven => dueNone
  | .stagedWrite | .commit | .restartPanel | .stopPanel | .clearFaults | .release | .startCopy | .cancelCopy
  | .resweepAll | .reportNow | .unknownCommand | .grantDecision => dueUrgent
  | .sysclr | .wipeWriteDone | .sustainCycleStart | .hvokSeen | .hvokLost | .hvocSeen | .groupStrike _ _
  | .chargeTimeout | .restEnd | .litDurationExpiry | .copyReadDone | .copyWriteDone => dueInstant
  | .sysclrNegate | .busRead _ | .busWrite _ _ _ _ | .stallExpiry | .passthroughReadDone | .passthroughWriteDone
  | .pictureReadDone | .cellWordReadDone | .writeBackDone | .phaseBStart | .addressPulseStart | .addressPulseEnd
  | .rampTick | .faultInputChange _ _ | .refreshDue | .refreshDone | .reportBlockDone | .imageGrantDone => dueAny

theorem exec_eq_occur (c : Instr) (s : State) : exec c s = occur (dueBefore c) (rowOf c) s := by cases c <;> rfl

/-- The rows of the pins but POR_ASSERT. -/
inductive LevelRow : (State → Option State) → Prop
  | porEnd (straps : BitVec 2) : LevelRow (rowPorEnd straps)
  | sysclr : LevelRow rowSysclr
  | sysclrNegate : LevelRow rowSysclrNegate
  | busRead (a : Addr) : LevelRow (rowBusRead a)
  | busWrite (a : Addr) (ubs lbs : Bool) (data : Word) : LevelRow (rowBusWrite a ubs lbs data)
  | faultInputChange (input : FaultInput) (level : Bool) : LevelRow (rowFaultInputChange input level)

/-- Every command but POR_ASSERT is a row of the pins or one of the blocks. -/
theorem rowOf_kind (c : Instr) :
    c = .porAssert ∨ LevelRow (rowOf c) ∨ ∃ row, InnerRow row ∧ rowOf c = running row := by
  cases c
  case porAssert => exact .inl rfl
  case porEnd straps => exact .inr (.inl (.porEnd straps))
  case sysclr => exact .inr (.inl .sysclr)
  case sysclrNegate => exact .inr (.inl .sysclrNegate)
  case busRead a => exact .inr (.inl (.busRead a))
  case busWrite a ubs lbs data => exact .inr (.inl (.busWrite a ubs lbs data))
  case faultInputChange input level => exact .inr (.inl (.faultInputChange input level))
  all_goals exact .inr (.inr ⟨_, by constructor, rfl⟩)

/-! ### Commands with nothing due before them -/

theorem dueUrgent_of_dueAny (h : dueAny s = none) : dueUrgent s = none := (Option.or_eq_none_iff.1 h).1

theorem dueInstant_of_dueAny (h : dueAny s = none) : dueInstant s = none := by
  obtain ⟨hu, hr⟩ := Option.or_eq_none_iff.1 h
  refine Option.or_eq_none_iff.2 ⟨hu, ?_⟩
  split at hr
  · exact if_pos ‹_›
  · rename_i hp
    rw [if_neg hp]
    simp only [Option.map_eq_none_iff, Option.or_eq_none_iff] at hr ⊢
    exact hr.2.2

theorem dueBefore_cases (c : Instr) :
    dueBefore c = dueNone ∨ dueBefore c = dueUrgent ∨ dueBefore c = dueInstant ∨ dueBefore c = dueAny := by
  cases c <;> simp [dueBefore]

theorem dueBefore_of_dueAny (h : dueAny s = none) (c : Instr) : dueBefore c s = none := by
  obtain e | e | e | e := dueBefore_cases c <;> rw [e]
  exacts [rfl, dueUrgent_of_dueAny h, dueInstant_of_dueAny h, h]

/-- While POR is asserted nothing is due (R122, R155). -/
theorem dueAny_of_por (hp : s.por = true) : dueAny s = none :=
  Option.or_eq_none_iff.2 ⟨if_pos hp, if_pos hp⟩

/-- With nothing due a command is its row, or changes nothing. -/
theorem exec_of_dueAny_none {c : Instr} (hd : dueAny s = none) (h : exec c s = .next t) :
    (rowOf c s = none ∧ t = s) ∨ ∃ u, rowOf c s = some u ∧ t = u.afterEvent := by
  rw [exec_eq_occur] at h
  cases hr : rowOf c s with
  | none =>
    rw [occur_of_none (dueBefore_of_dueAny hd c) hr] at h
    cases h
    exact .inl ⟨rfl, rfl⟩
  | some u =>
    rw [occur_of_some (dueBefore_of_dueAny hd c) hr] at h
    cases h
    exact .inr ⟨u, rfl, rfl⟩

theorem exec_of_row {c : Instr} (hd : dueAny s = none) (hr : rowOf c s = some u) : exec c s = .next u.afterEvent :=
  (exec_eq_occur c s).trans (occur_of_some (dueBefore_of_dueAny hd c) hr)

theorem exec_of_no_row {c : Instr} (hd : dueAny s = none) (hr : rowOf c s = none) : exec c s = .next s :=
  (exec_eq_occur c s).trans (occur_of_none (dueBefore_of_dueAny hd c) hr)

/-! ### Memory at the end of a grant (R114) -/

/-- No level of a pin moves memory or ends a grant. -/
theorem LevelRow.dram {row : State → Option State} (hr : LevelRow row) (hp : s.por = false) (h : row s = some t) :
    t.dram = s.dram ∧ (t.port.current = none → s.port.current = none) := by
  cases hr
  case porEnd straps =>
    obtain ⟨he, -⟩ := rowPorEnd_cases h
    rw [hp] at he; cases he
  case sysclr =>
    obtain k | ⟨-, k⟩ := rowSysclr_bus h
    exacts [⟨k.dram, k.idle.1⟩, ⟨k.dram, fun e => s.emptyWork_current_none.1 (k.idle.1 e)⟩]
  case sysclrNegate => rw [rowSysclrNegate_cases h]; exact ⟨rfl, id⟩
  case busRead => obtain ⟨-, rfl | ⟨-, rfl⟩⟩ := rowBusRead_cases h <;> exact ⟨rfl, id⟩
  case busWrite =>
    obtain ⟨-, rfl | ⟨-, rfl⟩⟩ := rowBusWrite_cases h
    exacts [⟨rfl, id⟩, ⟨by simp, by simp⟩]
  case faultInputChange =>
    obtain ⟨_, _, _, _, _, _, _, _, rfl⟩ := rowFaultInputChange_cases h
    exact ⟨rfl, id⟩

/-- A command that ends the grant in progress leaves memory as the write strobes of its accesses do. -/
theorem exec_dram_of_ended {c : Instr} (hs : s.Ready) (h : exec c s = .next t) (hn : s.port.current ≠ none)
    (ht : t.port.current = none) (hc : c ≠ .porAssert) : t.dram = s.drivenDram := by
  obtain ⟨-, rfl⟩ | ⟨u, hr, rfl⟩ := exec_of_dueAny_none hs.2 h
  · exact absurd ht hn
  · rw [(State.afterEvent_bus u).idle] at ht
    rw [(State.afterEvent_bus u).dram]
    obtain e | hl | ⟨row, hi, e⟩ := rowOf_kind c
    · exact absurd e hc
    · exact absurd ((hl.dram hs.1 hr).2 ht) hn
    · rw [e, running_of_not_por hs.1] at hr
      exact (hi.busStep hr).dram.resolve_left fun k => hn (k.2 ht)

/-- The words of a block, counted. -/
theorem blockDrives_eq_map (a : Nat) (ws : List Word) : blockDrives a ws =
    (List.range ws.length).map fun i => PortDrive.write (BitVec.ofNat 18 (a + i)) (some .both) (ws.getD i 0) := by
  induction ws generalizing a with
  | nil => rfl
  | cons w ws ih =>
    rw [blockDrives, ih, List.length_cons, List.range_succ_eq_map, List.map_cons, List.map_map]
    refine congrArg₂ _ rfl (List.map_congr_left fun i _ => ?_)
    rw [Function.comp_apply, Nat.succ_eq_add_one, show a + (i + 1) = a + 1 + i by omega]
    rfl

theorem State.strobeOf_eq (s : State) (a : Addr) (lanes : Option Lanes) :
    s.strobeOf a lanes = if s.standing.inPlane a.toNat = true then none else lanes := by
  simp only [State.strobeOf, State.classify_plane_iff]

/-- Settles O42: each grant's accesses, and memory at the end of one. -/
theorem thePortDrivesTheAccessInProgress : Obligations.ThePortDrivesTheAccessInProgress := by
  refine ⟨?_, fun c s t hs h hn ht hc => exec_dram_of_ended hs h hn ht hc⟩
  intro s page read write block strobe
  refine ⟨State.portDrives_idle, State.portDrives_refresh, fun h => ⟨fun a hc => State.portDrives_busRead h hc,
    fun a lanes data d hc => ?_⟩, fun words h => ?_, fun n first words hn h => ?_,
    fun a owned => ⟨State.portDrives_readPicture, State.portDrives_readCell, State.portDrives_wipe,
      State.portDrives_copyRead, fun w => ⟨State.portDrives_writeBack, fun h => ?_⟩⟩⟩
  · rw [State.portDrives_busWrite h hc, State.strobeOf_eq]
    rfl
  · rw [State.portDrives_reportBlock h, blockDrives_eq_map]
    rfl
  · have hwords : imageWords n = (first, words) := by
      simp only [List.mem_cons, Prod.mk.injEq, List.not_mem_nil, or_false] at hn
      rcases hn with ⟨rfl, rfl, rfl⟩ | ⟨rfl, rfl, rfl⟩ | ⟨rfl, rfl, rfl⟩ | ⟨rfl, rfl, rfl⟩ <;> rfl
    rw [State.portDrives_image h, hwords, blockDrives_eq_map]
    rfl
  · rw [State.portDrives_copyWrite h, State.strobeOf_eq]
    rfl

end Sys2Proof.Machine
end

section
/-! PROOFS. The bus cycles (R51–R66): a read, a write's guard decision, how a HELD write is settled, a completed write. -/

namespace Sys2Proof.Machine

variable {s t : State}

/-! ### A cycle that is presented -/

theorem rowBusRead_taken {a : Addr} (hp : s.por = false) (hl : s.sysclr = false) (hn : s.passage.inHand = none) :
    rowBusRead a s = some (s.takeRead a) := by
  simp [rowBusRead, hp, hl, hn]

theorem rowBusWrite_taken {a : Addr} {ubs lbs : Bool} {data : Word} (hp : s.por = false) (hl : s.sysclr = false)
    (hn : s.passage.inHand = none) : rowBusWrite a ubs lbs data s = some (s.takeWrite a ubs lbs data) := by
  simp [rowBusWrite, hp, hl, hn]

/-- R51, R66: while POR or SYSCLR is asserted a cycle waits. -/
theorem rowBusRead_waits {a : Addr} (hw : (s.por || s.sysclr) = true) (hn : s.passage.inHand = none) :
    rowBusRead a s = some (s.present (.read a)) := by
  simp only [rowBusRead, hn, Option.isSome_none, Bool.false_eq_true, if_false, hw, if_true]

theorem rowBusWrite_waits {a : Addr} {ubs lbs : Bool} {data : Word} (hw : (s.por || s.sysclr) = true)
    (hn : s.passage.inHand = none) : rowBusWrite a ubs lbs data s = some (s.present (.write a ubs lbs data)) := by
  simp only [rowBusWrite, hn, Option.isSome_none, Bool.false_eq_true, if_false, hw, if_true]

/-! ### The guard decision (R58, R61) -/

theorem lanesOf_isSome {ubs lbs : Bool} : (lanesOf ubs lbs).isSome = true ↔ ubs = true ∨ lbs = true := by
  cases ubs <;> cases lbs <;> decide

theorem State.needsPlace_iff {a : Addr} {lanes : Option Lanes} : s.needsPlace a lanes = true ↔
    s.seq.panel = .lit ∧ lanes.isSome = true ∧ s.standing.inPicture a.toNat = true := by
  simp only [State.needsPlace, Bool.and_eq_true, decide_eq_true_eq, and_assoc]

theorem State.takeWrite_unneeded {a : Addr} {ubs lbs : Bool} (h : ¬s.needsPlace a (lanesOf ubs lbs) = true)
    (data : Word) :
    s.takeWrite a ubs lbs data = (s.holdWrite a (lanesOf ubs lbs) data .unplaced none).askPassthrough := by
  simp only [State.takeWrite, h, Bool.not_false, if_true]

theorem State.takeWrite_placed {a : Addr} {ubs lbs : Bool} (h : s.needsPlace a (lanesOf ubs lbs) = true)
    (hf : s.capture.hasFree = true) (data : Word) : s.takeWrite a ubs lbs data =
      (({ s with capture := s.capture.reserve } : State).holdWrite a (lanesOf ubs lbs) data .placed none).askPassthrough := by
  simp only [State.takeWrite, h, hf, Bool.not_true, Bool.false_eq_true, if_false, if_true]

/-- With no place free the stall limit decides. -/
theorem State.takeWrite_full {a : Addr} {ubs lbs : Bool} (h : s.needsPlace a (lanesOf ubs lbs) = true)
    (hf : ¬s.capture.hasFree = true) (data : Word) : s.takeWrite a ubs lbs data =
      if s.standing.stallLimit = 0 then (s.holdWrite a (lanesOf ubs lbs) data .expired none).askPassthrough
      else s.holdWrite a (lanesOf ubs lbs) data .held (some s.standing.stallLimit) := by
  simp only [State.takeWrite, h, hf, Bool.not_true, Bool.false_eq_true, if_false]

/-! ### The obligations -/

/-- Settles O9: the row of a read, and of its completion. -/
theorem aReadPassesThrough : Obligations.AReadPassesThrough := by
  refine ⟨fun a s hs hl hn => ?_, fun a s hs hc hh => ?_⟩
  · exact exec_of_row (c := .busRead a) hs.2 (rowBusRead_taken hs.1 hl hn)
  · have hrow : rowPassthroughReadDone s = some { s.endGrant.endCycle with
        passage := { s.endGrant.endCycle.passage with busData := s.readWord a } } := by
      simp only [rowPassthroughReadDone, hc, hh]
    exact occur_running_of_some hs.1 hs.2 hrow

/-- Settles O10: the four guard decisions are the branches of the take. -/
theorem aWriteReceivesItsGuardDecision : Obligations.AWriteReceivesItsGuardDecision := by
  intro a ubs lbs data s hs hl hn needs free held asked
  have hneeds : s.needsPlace a (lanesOf ubs lbs) = true ↔ needs := by
    rw [State.needsPlace_iff, lanesOf_isSome, ParamSet.inPicture_iff]
  have hfree : s.capture.hasFree = true ↔ free := CaptureList.hasFree_iff
  have taken {t : State} (e : s.takeWrite a ubs lbs data = t) : exec (.busWrite a ubs lbs data) s = .next t.afterEvent :=
    e ▸ exec_of_row (c := .busWrite a ubs lbs data) hs.2 (rowBusWrite_taken hs.1 hl hn)
  refine ⟨fun h => ?_, fun h hf => ?_, fun h hf hz => ?_, fun h hf hz => ?_⟩
  · exact taken (State.takeWrite_unneeded (fun k => h (hneeds.1 k)) data)
  · exact taken (State.takeWrite_placed (hneeds.2 h) (hfree.2 hf) data)
  · exact taken ((State.takeWrite_full (hneeds.2 h) (fun k => hf (hfree.1 k)) data).trans (if_neg hz))
  · exact taken ((State.takeWrite_full (hneeds.2 h) (fun k => hf (hfree.1 k)) data).trans (if_pos hz))

theorem rowStallExpiry_of_not_held {a : Addr} {lanes : Option Lanes} {data : Word} {d : GuardDecision} (hd : d ≠ .held)
    (h : s.passage.inHand = some (.write a lanes data d)) : rowStallExpiry s = none :=
  Option.eq_none_iff_forall_ne_some.2 fun t ht => by
    obtain ⟨_, _, _, hh, -⟩ := rowStallExpiry_cases ht
    rw [h] at hh
    cases hh
    exact hd rfl

/-- Settles O11: a place given, the stall timer, and no second settlement. -/
theorem aHeldWriteIsSettledOnce : Obligations.AHeldWriteIsSettledOnce := by
  refine fun a lanes data s hh => ⟨fun hp hf => ?_, fun hs ht => ?_, fun d hd t ht hi => ?_⟩
  · have hrow : rowHeldWritePlaced s = some
        (({ s with capture := s.capture.reserve } : State).holdWrite a lanes data .placed none).askPassthrough := by
      simp only [rowHeldWritePlaced, hh, CaptureList.hasFree_iff.2 hf, if_true]
    exact occur_running_of_some (due := dueNone) hp rfl hrow
  · obtain ⟨n, hn⟩ := Option.ne_none_iff_exists'.1 ht
    have hrow : rowStallExpiry s = some (s.holdWrite a lanes data .expired none).askPassthrough := by
      simp only [rowStallExpiry, hh, hn]
    exact occur_running_of_some hs.1 hs.2 hrow
  · exact occur_running_of_none ht.1 ht.2 (rowStallExpiry_of_not_held hd hi)

/-! ### A completed write (R52–R54) -/

theorem rowPassthroughWriteDone_of_none {a : Addr} {data : Word} {d : GuardDecision}
    (hc : s.port.current = some .passthrough) (hh : s.passage.inHand = some (.write a none data d)) :
    rowPassthroughWriteDone s = some { s.endGrant.endCycle with capture := s.capture.release d } := by
  simp only [rowPassthroughWriteDone, hc, hh]; rfl

theorem rowPassthroughWriteDone_of_some {a : Addr} {l : Lanes} {data : Word} {d : GuardDecision}
    (hc : s.port.current = some .passthrough) (hh : s.passage.inHand = some (.write a (some l) data d)) :
    rowPassthroughWriteDone s = some (s.endGrant.endCycle.busWritten a l data d) := by
  simp only [rowPassthroughWriteDone, hc, hh]

theorem State.busWritten_plane {a : Addr} (h : s.standing.inPlane a.toNat = true) (l : Lanes) (data : Word)
    (d : GuardDecision) : s.busWritten a l data d = { s with
      passage := { s.passage with
        guardedWrites := if s.passage.guardedWrites = 65535 then 65535 else s.passage.guardedWrites + 1 }
      capture := s.capture.release d } := by
  rw [State.busWritten, if_pos (State.classify_plane_iff.2 h), satAdd_one]

theorem State.busWritten_landed {a : Addr} (h : s.standing.inPlane a.toNat = false) (l : Lanes) (data : Word)
    (d : GuardDecision) : s.busWritten a l data d = s.landed a l data d :=
  if_neg fun k => by rw [State.classify_plane_iff.1 k] at h; cases h

/-- Settles O12: no lane, a word of the cell plane, any other word. -/
theorem aBusWriteCompletes : Obligations.ABusWriteCompletes := by
  intro a lanes data d s hs hc hh done
  refine ⟨?_, ?_, ?_⟩
  · rintro rfl
    exact occur_running_of_some hs.1 hs.2 (rowPassthroughWriteDone_of_none hc hh)
  · rintro l rfl hp
    have hw := State.busWritten_plane (s := s.endGrant.endCycle) hp l data d
    exact occur_running_of_some hs.1 hs.2 ((rowPassthroughWriteDone_of_some hc hh).trans (congrArg some hw))
  · rintro l rfl hp
    have hw := State.busWritten_landed (s := s.endGrant.endCycle) hp l data d
    exact occur_running_of_some hs.1 hs.2 ((rowPassthroughWriteDone_of_some hc hh).trans (congrArg some hw))

end Sys2Proof.Machine
end

section
/-! PROOFS. Power-on reset on the bus (R51, R66, R122), and how the words of a copy begin (R65, R126, R129). -/

namespace Sys2Proof.Machine

variable {s t : State}

/-! ### While POR is asserted (R51, R122) -/

theorem rowPorAssert_of_not_por (hp : s.por = false) : rowPorAssert s = some s.porAsserted := by
  simp only [rowPorAssert, hp, Bool.false_eq_true, if_false]; rfl

theorem rowSysclr_of_por (hp : s.por = true) (hl : s.sysclr = false) : rowSysclr s = some { s with sysclr := true } := by
  simp only [rowSysclr, hl, hp, Bool.false_eq_true, if_false, if_true]

/-- No event closes while POR is asserted. -/
theorem State.afterEvent_of_por (hp : s.por = true) : s.afterEvent = s := if_pos hp

/-- Settles O4: the assertion, and then each pin while it lasts. -/
theorem porAssertAbandonsAndReleases : Obligations.PorAssertAbandonsAndReleases := by
  refine ⟨fun s hp => ?_, fun s hp => ?_⟩
  · have hnext : exec .porAssert s = .next s.porAsserted.afterEvent :=
      occur_of_some (due := dueNone) rfl (rowPorAssert_of_not_por hp)
    rw [hnext, State.afterEvent_of_por rfl]
    rfl
  · have hd : dueAny s = none := dueAny_of_por hp
    have row {c : Instr} {t : State} (hr : rowOf c s = some t) (ht : t.por = true) : exec c s = .next t := by
      rw [exec_of_row hd hr, State.afterEvent_of_por ht]
    refine ⟨fun hn a => ?_, fun hn a ubs lbs data => ?_, fun hl => ?_, fun hl => ?_, fun c h₁ h₂ h₃ h₄ h₅ h₆ => ?_⟩
    · exact row (c := .busRead a) (rowBusRead_waits (by rw [hp]; rfl) hn) hp
    · exact row (c := .busWrite a ubs lbs data) (rowBusWrite_waits (by rw [hp]; rfl) hn) hp
    · exact row (c := .sysclr) (rowSysclr_of_por hp hl) hp
    · exact row (c := .sysclrNegate) (if_pos hl) hp
    · have hr : rowOf c s = none := by
        cases c
        case porEnd straps => exact absurd rfl (h₃ straps)
        case sysclr => exact absurd rfl h₁
        case sysclrNegate => exact absurd rfl h₂
        case busRead a => exact absurd rfl (h₄ a)
        case busWrite a u l d => exact absurd rfl (h₅ a u l d)
        case faultInputChange i v => exact absurd rfl (h₆ i v)
        all_goals exact if_pos hp
      exact exec_of_no_row hd hr

/-! ### The words of a copy (R65, R126, R129) -/

theorem State.beginCopyWrite_unneeded (h : ¬s.needsPlace s.copy.destAddress (some .both) = true) (w : Word) :
    s.beginCopyWrite w = s.askCopyWrite w .unplaced := by
  simp only [State.beginCopyWrite, h, Bool.not_false, if_true]

theorem State.beginCopyWrite_needed (h : s.needsPlace s.copy.destAddress (some .both) = true) (w : Word) :
    s.beginCopyWrite w = if (s.capture.hasFree && !s.passage.holds) = true then
      ({ s with capture := s.capture.reserve } : State).askCopyWrite w .placed
    else { s with copy := { s.copy with step := .waitPlace w } } := by
  simp only [State.beginCopyWrite, h, Bool.not_true, Bool.false_eq_true, if_false]

/-- R59: the free place that the copy engine may take. -/
theorem State.copyPlaceFree_iff : (s.capture.hasFree && !s.passage.holds) = true ↔
    s.capture.records.length + s.capture.reservations < 16 ∧ s.passage.holds = false := by
  rw [Bool.and_eq_true, CaptureList.hasFree_iff, Bool.not_eq_true']

theorem State.askCopyWrite_eq {q : CopyRequest} (hq : s.copy.request = some q) (w : Word) (d : GuardDecision) :
    s.askCopyWrite w d = { s with
      copy := { s.copy with step := .destWrite w d }
      port := { s.port with copyWaiting := some (.write (q.destAt s.copy.row s.copy.word) w) } } := by
  simp only [State.askCopyWrite, State.askCopy, CopyEngine.destAddress, hq]

theorem rowCopyReadDone_orphan {a : Addr} (hc : s.port.current = some (.copy (.read a) false)) :
    rowCopyReadDone s = some s.endGrant := by
  simp only [rowCopyReadDone, hc, Bool.not_false, if_true]

theorem rowCopyReadDone_owned {a : Addr} (hc : s.port.current = some (.copy (.read a) true))
    (hs : s.copy.step = .sourceRead) : rowCopyReadDone s = some
      (if s.copy.cancelling = true then s.endGrant.endCopy .cancelled
      else s.endGrant.beginCopyWrite (s.readWord a)) := by
  simp only [rowCopyReadDone, hc, hs, Bool.not_true, Bool.false_eq_true, if_false, ne_eq, not_true_eq_false]
  split <;> rfl

theorem rowCopyPlaceGiven_given {w : Word} (hs : s.copy.step = .waitPlace w)
    (hf : (s.capture.hasFree && !s.passage.holds) = true) : rowCopyPlaceGiven s =
      some (({ s with capture := s.capture.reserve } : State).askCopyWrite w .placed) := by
  simp only [rowCopyPlaceGiven, hs, hf, if_true]

/-- Settles O48: how a word begins, COPY_READ_DONE, COPY_PLACE_GIVEN. -/
theorem copyWordsBeginAndCopyReadsComplete : Obligations.CopyWordsBeginAndCopyReadsComplete := by
  refine ⟨⟨fun s q hq => ⟨State.beginCopyWord_copy hq, State.beginCopyWord_fill hq⟩, fun s q w hq => ?_⟩,
    ?_, fun s w q hp hstep hq hf hh => ?_⟩
  · intro a needs free asked
    have hneeds : s.needsPlace s.copy.destAddress (some .both) = true ↔ needs := by
      have ha : s.copy.destAddress = a := by simp only [CopyEngine.destAddress, hq]; rfl
      rw [State.needsPlace_iff, ha]
      exact and_congr_right fun _ => and_iff_right rfl
    have hfree : (s.capture.hasFree && !s.passage.holds) = true ↔ free := State.copyPlaceFree_iff
    refine ⟨fun h => ?_, fun h hf => ?_, fun h hf => ?_⟩
    · rw [State.beginCopyWrite_unneeded fun k => h (hneeds.1 k)]
      exact State.askCopyWrite_eq hq w _
    · rw [State.beginCopyWrite_needed (hneeds.2 h), if_pos (hfree.2 hf)]
      exact State.askCopyWrite_eq (s := { s with capture := s.capture.reserve }) hq w _
    · rw [State.beginCopyWrite_needed (hneeds.2 h), if_neg fun k => hf (hfree.1 k)]
  · intro s a hs ended
    have done {t : State} (hr : rowCopyReadDone s = some t) : exec .copyReadDone s = .next t.afterEvent :=
      occur_running_of_some hs.1 hs.2 hr
    refine ⟨fun hc => done (rowCopyReadDone_orphan hc), fun hc hstep => ⟨fun hk => ?_, fun hk => ?_⟩⟩
    · exact done ((rowCopyReadDone_owned hc hstep).trans (congrArg some (if_pos hk)))
    · exact done ((rowCopyReadDone_owned hc hstep).trans (congrArg some (if_neg (by simp [hk]))))
  · have hrow := rowCopyPlaceGiven_given hstep (State.copyPlaceFree_iff.2 ⟨hf, hh⟩)
    rw [State.askCopyWrite_eq (s := { s with capture := s.capture.reserve }) hq] at hrow
    exact occur_running_of_some (due := dueNone) hp rfl hrow

end Sys2Proof.Machine
end

section
/-! PROOFS. SYSCLR (R66, R111, R121, R134, R149): the copy is aborted, the panel is dark. -/

namespace Sys2Proof.Machine

variable {s t : State}

/-! ### The entry to DARK (R105, R111) -/

theorem Sequencer.stopDebounce_groupTimer (q : Sequencer) (axis : Axis) (g : Nat) :
    q.stopDebounce.groupTimer axis g = none := by
  cases axis <;> exact entry_replicate_none g

theorem State.enterDark_enters (s : State) : s.EntersDark s.enterDark where
  panel := rfl
  count := rfl
  off := ⟨rfl, rfl, ⟨rfl, rfl⟩, rfl, rfl, fun axis g =>
    (Sequencer.groupTimer_of_eq rfl rfl axis g).trans (s.seq.stopDebounce_groupTimer axis g)⟩
  rest := rfl
  flags := ⟨rfl, rfl⟩
  sets := ⟨rfl, rfl, rfl, rfl, rfl⟩
  emptied := s.enterDark_emptied
  stale := rfl
  wipe := rfl
  due :=
    let r := s.reportDue_made
    ⟨r.due, r.asked, r.covered⟩
  keeps := ⟨⟨rfl, rfl⟩, ⟨rfl, rfl, rfl⟩, rfl, ⟨rfl, rfl, rfl, rfl⟩, ⟨rfl, rfl, rfl, rfl⟩, ⟨rfl, rfl⟩,
    fun h _ => s.emptyWork_grant h, rfl⟩

/-! ### The abort of a copy (R121, R134) -/

theorem MemoryPort.dropCopy_granted (p : MemoryPort) {a : CopyAccess} {o : Bool} (h : p.current = some (.copy a o)) :
    p.dropCopy.current = some (.copy a false) := by
  simp [MemoryPort.dropCopy, h]

theorem MemoryPort.dropCopy_other (p : MemoryPort) (h : ∀ a o, p.current ≠ some (.copy a o)) :
    p.dropCopy.current = p.current := by
  unfold MemoryPort.dropCopy
  dsimp only
  split
  · exact absurd ‹_› (h _ _)
  · rfl

/-- An aborted copy's accesses are given up, and a report is due. -/
def State.copyAborted (s : State) : State := State.reportDue { s with
  port := s.port.dropCopy
  copy := { s.copy with outcome := .aborted, step := .none, cancelling := false } }

theorem State.abortCopy_active (h : s.copy.outcome = .active) : s.abortCopy = s.copyAborted := if_pos h

theorem State.abortCopy_ended (h : s.copy.outcome ≠ .active) : s.abortCopy = s := if_neg h

/-- The abort leaves everything that an entry to DARK is compared with. -/
theorem State.EntersDark.of_copyAborted (e : s.copyAborted.EntersDark t) : s.EntersDark t where
  panel := e.panel
  count := e.count
  off := ⟨e.off.hven, e.off.sustain, e.off.timers, e.off.debounce⟩
  rest := e.rest
  flags := e.flags
  sets := e.sets
  emptied :=
    let w := e.emptied
    ⟨w.queue, w.list, w.holds, w.item, w.held, w.placed, w.other, w.withdrawn, fun a o h => w.granted a o <| by
      rw [← h]; exact s.port.dropCopy_other fun _ _ h' => by rw [h] at h'; cases h'⟩
  stale := e.stale
  wipe := e.wipe
  due :=
    let r := (State.reportDue_made { s with
      port := s.port.dropCopy
      copy := { s.copy with outcome := .aborted, step := .none, cancelling := false } }).again e.due
    ⟨r.due, r.asked, r.covered⟩
  keeps :=
    let k := e.keeps
    ⟨k.memory, k.pins, k.standing, k.inputs, k.refresh, k.decision, fun hr hc =>
      have hcur : s.copyAborted.port.current = s.port.current := s.port.dropCopy_other hc
      (k.grant (by rwa [hcur]) (by rwa [hcur])).trans hcur, k.count⟩

theorem State.EntersDark.of_abortCopy (e : s.abortCopy.EntersDark t) : s.EntersDark t := by
  by_cases h : s.copy.outcome = .active
  · rw [State.abortCopy_active h] at e; exact e.of_copyAborted
  · rw [State.abortCopy_ended h] at e; exact e

/-! ### SYSCLR -/

/-- The part at SYSCLR: DARK, the copy aborted, the checked set discarded, no cause pending and ATN negated. -/
def State.sysclrEntered (s : State) : State :=
  let t := s.abortCopy.enterDark
  { t with
    sysclr := true
    control := { s.control with checked := none }
    report := { t.report with causes := 0, quietArmed := false, atn := false } }

theorem rowSysclr_entered (hp : s.por = false) (hl : s.sysclr = false) : rowSysclr s = some s.sysclrEntered := by
  simp [rowSysclr, hl, hp, State.sysclrEntered, State.decideAtn]

theorem State.sysclrEntered_enters (s : State) : s.EntersDark s.sysclrEntered :=
  let e := s.abortCopy.enterDark_enters
  State.EntersDark.of_abortCopy
    { panel := e.panel
      count := e.count
      off := ⟨e.off.hven, e.off.sustain, e.off.timers, e.off.debounce⟩
      rest := e.rest
      flags := e.flags
      sets := e.sets
      emptied := ⟨e.emptied.queue, e.emptied.list, e.emptied.holds, e.emptied.item, e.emptied.held, e.emptied.placed,
        e.emptied.other, e.emptied.withdrawn, e.emptied.granted⟩
      stale := e.stale
      wipe := e.wipe
      due := ⟨e.due.due, e.due.asked, e.due.covered⟩
      keeps := ⟨e.keeps.memory, e.keeps.pins, e.keeps.standing, e.keeps.inputs, e.keeps.refresh, e.keeps.decision,
        e.keeps.grant, e.keeps.count⟩ }

/-- An emptying moves only the step of a copy. -/
theorem CopyEngine.emptied_outcome (c : CopyEngine) : c.emptied.request = c.request ∧
    c.emptied.rowsRemaining = c.rowsRemaining ∧ c.emptied.outcome = c.outcome := by
  unfold CopyEngine.emptied
  split <;> exact ⟨rfl, rfl, rfl⟩

theorem State.sysclrEntered_copy_active (h : s.copy.outcome = .active) :
    s.sysclrEntered.copy = { s.copy with outcome := .aborted, step := .none, cancelling := false } ∧
      s.sysclrEntered.port.copyWaiting = none ∧
      s.sysclrEntered.port.current = s.port.dropCopy.dropRender.current := by
  rw [State.sysclrEntered, State.abortCopy_active h]
  exact ⟨rfl, rfl, rfl⟩

theorem State.sysclrEntered_copy_ended (h : s.copy.outcome ≠ .active) : s.sysclrEntered.copy = s.copy.emptied := by
  rw [State.sysclrEntered, State.abortCopy_ended h]
  rfl

/-- Settles O7: the state that the row makes, outside LIT, and what became of the copy. -/
theorem sysclrEntersDarkAndAbortsTheCopy : Obligations.SysclrEntersDarkAndAbortsTheCopy := by
  intro s hs hl
  have hdark := s.sysclrEntered_enters
  have hafter : s.sysclrEntered.afterEvent = s.sysclrEntered :=
    State.afterEvent_of_not_lit (by rw [hdark.panel]; decide)
  have hnext : exec .sysclr s = .next s.sysclrEntered :=
    (occur_of_some hs.2 (rowSysclr_entered hs.1 hl)).trans (congrArg _ hafter)
  refine ⟨_, hnext, hdark, rfl, rfl, rfl, rfl, rfl, ?_⟩
  by_cases h : s.copy.outcome = .active
  · obtain ⟨hcopy, hwait, hcur⟩ := State.sysclrEntered_copy_active h
    rw [hcopy]
    refine ⟨rfl, rfl, fun _ => ⟨rfl, rfl, rfl, hwait, fun a o hc => ?_⟩, fun hn => absurd h hn⟩
    rw [hcur]
    exact MemoryPort.dropRender_copy _ (s.port.dropCopy_granted hc)
  · obtain ⟨hreq, hrows, hout⟩ := s.copy.emptied_outcome
    rw [State.sysclrEntered_copy_ended h]
    exact ⟨hreq, hrows, fun ha => absurd ha h, fun _ => hout⟩

end Sys2Proof.Machine
end

section
/-! PROOFS. The take of a presented cycle (R51, R66): it brings about no further step at once, so it is the one step that is
due when SYSCLR is negated. -/

namespace Sys2Proof.Machine

variable {s t u : State}

/-! ### When each step that follows at once is not due -/

theorem rowSustainCycleStart_none_iff :
    rowSustainCycleStart s = none ↔ ¬(s.address.running = true ∧ s.address.phase ≠ .a) := by
  rw [rowSustainCycleStart, ite_eq_right_iff, imp_iff_not (Option.some_ne_none _)]

theorem rowReportBlockGrant_none_iff : rowReportBlockGrant s = none ↔ s.port.current ≠ some (.reportBlock none) := by
  unfold rowReportBlockGrant
  split
  · rename_i h; exact ⟨(fun e => nomatch e), fun e => absurd h e⟩
  · exact ⟨fun _ => ‹_›, fun _ => rfl⟩

theorem Passage.holds_iff {p : Passage} :
    p.holds = true ↔ ∃ a lanes data, p.inHand = some (.write a lanes data .held) := by
  unfold Passage.holds
  split
  · rename_i h; exact ⟨fun _ => ⟨_, _, _, h⟩, fun _ => rfl⟩
  · rename_i h; exact ⟨(fun e => nomatch e), fun ⟨_, _, _, e⟩ => absurd e (h _ _ _)⟩

theorem rowHeldWritePlaced_none_of (h : s.passage.holds = true → s.capture.hasFree = false) :
    rowHeldWritePlaced s = none :=
  Option.eq_none_iff_forall_ne_some.2 fun t ht => by
    obtain ⟨a, l, w, hh, hf, -⟩ := rowHeldWritePlaced_cases ht
    rw [h (Passage.holds_iff.2 ⟨a, l, w, hh⟩)] at hf
    cases hf

theorem rowCopyPlaceGiven_none_iff : rowCopyPlaceGiven s = none ↔
    ∀ w, s.copy.step = .waitPlace w → ¬(s.capture.hasFree && !s.passage.holds) = true := by
  unfold rowCopyPlaceGiven
  split
  · rename_i w h
    rw [h, ite_eq_right_iff, imp_iff_not (Option.some_ne_none _)]
    exact ⟨fun e _ _ => e, fun e => e w rfl⟩
  · rename_i h; exact ⟨fun _ w e => absurd e (h w), fun _ => rfl⟩

theorem rowCommitApply_none_iff :
    rowCommitApply s = none ↔ ¬(s.render.item = none ∧ s.control.checked.isSome = true) := by
  unfold rowCommitApply
  split
  · rename_i hi hc; exact ⟨(fun e => nomatch e), fun e => absurd ⟨hi, by rw [hc]; rfl⟩ e⟩
  · rename_i h
    refine ⟨fun _ hn => ?_, fun _ => rfl⟩
    obtain ⟨new, hc⟩ := Option.isSome_iff_exists.1 hn.2
    exact h new hn.1 hc

theorem rowCaptureItem_none_iff : rowCaptureItem s = none ↔ s.capture.records = [] ∨
    ¬(s.seq.panel = .lit ∧ s.canChoose = true ∧ ¬(s.stale.offer.isSome = true ∧ 8 ≤ s.render.captureCount)) := by
  unfold rowCaptureItem
  split
  · rename_i h; exact ⟨fun _ => .inl h, fun _ => rfl⟩
  · rename_i h
    rw [ite_eq_right_iff, imp_iff_not (Option.some_ne_none _), h]
    exact ⟨.inr, fun e => e.resolve_left (List.cons_ne_nil _ _)⟩

theorem rowResweepItem_none_iff : rowResweepItem s = none ↔ s.stale.offer = none ∨
    ¬(s.seq.panel = .lit ∧ s.canChoose = true ∧ (s.capture.records = [] ∨ 8 ≤ s.render.captureCount)) := by
  unfold rowResweepItem
  split
  · rename_i h; exact ⟨fun _ => .inl h, fun _ => rfl⟩
  · rename_i h
    rw [ite_eq_right_iff, imp_iff_not (Option.some_ne_none _), h]
    exact ⟨.inr, fun e => e.resolve_left (Option.some_ne_none _)⟩

theorem rowWipeItem_none_iff : rowWipeItem s = none ↔
    ¬(s.seq.panel = .clearing ∧ s.canChoose = true ∧ s.render.wipePosition < Config.planeWords) := by
  rw [rowWipeItem, ite_eq_right_iff, imp_iff_not (Option.some_ne_none _)]

/-- The step of a cell word that waits for room in the queue (R42). -/
def RenderItem.waitsForRoom : RenderItem → Bool
  | .capture _ _ _ .freeWait | .resweep _ _ _ .freeWait => true
  | _ => false

theorem rowFreeEntryWaitEnd_none_iff : rowFreeEntryWaitEnd s = none ↔
    (s.roomInQueue = true → s.render.item.any RenderItem.waitsForRoom = false) := by
  unfold rowFreeEntryWaitEnd
  split
  · rename_i hr
    refine Iff.trans ?_ (forall_prop_of_true hr).symm
    split <;> rename_i h
    · rw [h]; exact ⟨(fun e => nomatch e), (fun e => nomatch e)⟩
    · rw [h]; exact ⟨(fun e => nomatch e), (fun e => nomatch e)⟩
    · rename_i h'
      refine ⟨fun _ => ?_, fun _ => rfl⟩
      cases hi : s.render.item with
      | none => rfl
      | some i =>
        change i.waitsForRoom = false
        unfold RenderItem.waitsForRoom
        split
        exacts [absurd hi (h' _ _ _), absurd hi (h _ _ _), rfl]
  · rename_i hr; exact ⟨fun _ e => absurd e hr, fun _ => rfl⟩

theorem rowHandOver_none (h : s.control.handOvers = []) : rowHandOver s = none := by
  simp [rowHandOver, rowStagedWrite, rowCommit, rowRestartPanel, rowStopPanel, rowClearFaults, rowRelease, rowStartCopy,
    rowCancelCopy, rowResweepAll, rowReportNow, rowUnknownCommand, commandRow, h]

theorem rowGrantDecision_none (h : s.port.current ≠ none) : rowGrantDecision s = none := by
  unfold rowGrantDecision
  split
  exacts [rfl, absurd ‹_› h]

theorem takePresented_none (h : s.passage.inHand ≠ none) : takePresented s = none :=
  Option.eq_none_iff_forall_ne_some.2 fun _ ht => h (takePresented_cases ht).1

theorem dueUrgent_none_iff (hp : s.por = false) : dueUrgent s = none ↔
    (s.address.phase = .notBegun → rowSustainCycleStart s = none) ∧ rowReportBlockGrant s = none ∧
    rowHeldWritePlaced s = none ∧ rowCopyPlaceGiven s = none ∧ rowCommitApply s = none ∧ rowCaptureItem s = none ∧
    rowResweepItem s = none ∧ rowWipeItem s = none ∧ rowFreeEntryWaitEnd s = none := by
  simp only [dueUrgent, hp, Bool.false_eq_true, if_false, Option.map_eq_none_iff, Option.or_eq_none_iff,
    ite_eq_right_iff]

/-- R107: what is seen at once goes by the sequencer and the standing masks alone. -/
theorem rowSeenAtOnce_none_of (hq : t.seq = s.seq) (hs : t.standing = s.standing) (h : rowSeenAtOnce s = none) :
    rowSeenAtOnce t = none := by
  unfold rowSeenAtOnce rowHvocSeen rowHvokSeen rowHvokLost rowGroupStrike at h ⊢
  rw [hq, hs]
  split at h
  · rename_i hv
    rw [if_pos hv]
    simpa using h
  · rename_i hv
    rw [if_neg hv]
    split at h
    · rename_i hk
      rw [if_pos hk]
      simpa using h
    · rename_i hk
      rw [if_neg hk]
      split at h <;> simp_all

/-! ### Nothing new is due -/

/-- Between `s` and `t` nothing came about that a step at once could follow from: what those steps read stands, a place of the
list fell free to nobody, and a write that is HELD found none. -/
structure State.NothingNew (s t : State) : Prop where
  por : t.por = s.por
  address : t.address = s.address
  current : t.port.current = s.port.current
  item : t.render.item = s.render.item
  wipe : t.render.wipePosition = s.render.wipePosition
  count : t.render.captureCount = s.render.captureCount ∨ (s.capture.records = [] ∧ s.stale.offer = none)
  control : t.control = s.control
  records : t.capture.records = s.capture.records
  stale : t.stale = s.stale
  queue : t.queue = s.queue
  standing : t.standing = s.standing
  seq : t.seq = s.seq
  copy : t.copy = s.copy
  free : t.capture.hasFree = true → s.capture.hasFree = true
  held : t.passage.holds = true → t.capture.hasFree = false

theorem State.NothingNew.canChoose (k : s.NothingNew t) : t.canChoose = s.canChoose := by
  simp only [State.canChoose, MemoryPort.rendering, k.item, k.control, k.current]

theorem State.NothingNew.dueUrgent (k : s.NothingNew t) (hp : s.por = false) (hn : s.passage.holds = false)
    (h : dueUrgent s = none) : Machine.dueUrgent t = none := by
  obtain ⟨hsustain, hblock, -, hplace, hcommit, hcapture, hresweep, hwipe, hroom⟩ := (dueUrgent_none_iff hp).1 h
  refine (dueUrgent_none_iff (k.por.trans hp)).2 ⟨?_, ?_, rowHeldWritePlaced_none_of k.held, ?_, ?_, ?_, ?_, ?_, ?_⟩
  · rw [rowSustainCycleStart_none_iff] at hsustain ⊢
    rwa [k.address]
  · rw [rowReportBlockGrant_none_iff] at hblock ⊢
    rwa [k.current]
  · rw [rowCopyPlaceGiven_none_iff] at hplace ⊢
    intro w hw hf
    rw [Bool.and_eq_true] at hf
    exact hplace w (k.copy ▸ hw) (by rw [k.free hf.1, hn]; rfl)
  · rw [rowCommitApply_none_iff] at hcommit ⊢
    rwa [k.item, k.control]
  · rw [rowCaptureItem_none_iff] at hcapture ⊢
    obtain hc | ⟨hr, -⟩ := k.count
    · rwa [k.records, k.seq, k.canChoose, k.stale, hc]
    · exact .inl (k.records.trans hr)
  · rw [rowResweepItem_none_iff] at hresweep ⊢
    obtain hc | ⟨-, ho⟩ := k.count
    · rwa [k.records, k.seq, k.canChoose, k.stale, hc]
    · exact .inl (by rw [k.stale, ho])
  · rw [rowWipeItem_none_iff] at hwipe ⊢
    rwa [k.seq, k.canChoose, k.wipe]
  · rw [rowFreeEntryWaitEnd_none_iff] at hroom ⊢
    rwa [State.roomInQueue, k.queue, k.item]

/-- The close of an event brings nothing new about: the count it sets to 0 is that of an idle stage. -/
theorem State.NothingNew.afterEvent (k : s.NothingNew t) : s.NothingNew t.afterEvent where
  por := by simpa using k.por
  address := by simpa using k.address
  current := by simpa using k.current
  item := by simpa using k.item
  wipe := by simpa using k.wipe
  count := by
    have hcount : t.afterEvent.render.captureCount = t.render.captureCount ∨
        (t.capture.records = [] ∧ t.stale.offer = none) := by
      by_cases hi : t.capture.records = [] ∧ t.stale.offer = none
      · exact .inr hi
      · left
        unfold State.afterEvent
        split
        · rfl
        · have hq : t.idleCount.quietCheck.render = t.idleCount.render := by simp
          rw [hq, State.idleCount, if_neg fun ⟨_, _, _, hr, ho⟩ => hi ⟨hr, ho⟩]
    rw [k.records, k.stale] at hcount
    obtain hc | hc := hcount
    · rw [hc]; exact k.count
    · exact .inr hc
  control := by simpa using k.control
  records := by simpa using k.records
  stale := by simpa using k.stale
  queue := by simpa using k.queue
  standing := by simpa using k.standing
  seq := by simpa using k.seq
  copy := by simpa using k.copy
  free := by simpa using k.free
  held := by simpa using k.held

/-! ### A cycle is taken -/

/-- The part with a presented cycle taken in hand (R51, R58). -/
def State.taken (s : State) : PresentedCycle → State
  | .read a => s.takeRead a
  | .write a ubs lbs data => s.takeWrite a ubs lbs data

/-- The command by which a cycle is presented. -/
def PresentedCycle.command : PresentedCycle → Instr
  | .read a => .busRead a
  | .write a ubs lbs data => .busWrite a ubs lbs data

theorem takePresented_taken {cycle : PresentedCycle} (hp : s.por = false) (hl : s.sysclr = false)
    (hn : s.passage.inHand = none) (hc : s.passage.presented = some cycle) :
    takePresented s = some (s.taken cycle) := by
  cases cycle <;> simp [takePresented, hp, hl, hn, hc, State.taken]

theorem rowOf_command {cycle : PresentedCycle} (hp : s.por = false) (hl : s.sysclr = false)
    (hn : s.passage.inHand = none) : rowOf cycle.command s = some (s.taken cycle) := by
  cases cycle
  exacts [rowBusRead_taken hp hl hn, rowBusWrite_taken hp hl hn]

theorem State.taken_inHand (s : State) (cycle : PresentedCycle) :
    (s.taken cycle).passage.inHand ≠ none ∧ (s.taken cycle).passage.presented = none := by
  cases cycle with
  | read a => exact ⟨Option.some_ne_none _, rfl⟩
  | write a ubs lbs data =>
    change (s.takeWrite a ubs lbs data).passage.inHand ≠ none ∧ (s.takeWrite a ubs lbs data).passage.presented = none
    obtain e | ⟨-, -, e⟩ | e | ⟨-, e⟩ := s.takeWrite_cases a ubs lbs data <;> rw [e] <;>
      exact ⟨Option.some_ne_none _, rfl⟩

/-- Taking a cycle leaves all but the passage, its request and its reservation. -/
theorem State.NothingNew.of_passage (p : Passage) (w : Bool) (h : p.holds = true → s.capture.hasFree = false) :
    s.NothingNew { s with passage := p, port := { s.port with passWaiting := w } } :=
  ⟨rfl, rfl, rfl, rfl, rfl, .inl rfl, rfl, rfl, rfl, rfl, rfl, rfl, rfl, id, h⟩

theorem CaptureList.hasFree_of_reserve {c : CaptureList} (h : c.reserve.hasFree = true) : c.hasFree = true := by
  rw [CaptureList.hasFree_iff] at h ⊢
  change c.records.length + (c.reservations + 1) < 16 at h
  omega

theorem State.takeWrite_nothingNew (s : State) (a : Addr) (ubs lbs : Bool) (data : Word) :
    s.NothingNew (s.takeWrite a ubs lbs data) := by
  by_cases hneeds : s.needsPlace a (lanesOf ubs lbs) = true
  · by_cases hfree : s.capture.hasFree = true
    · rw [State.takeWrite_placed hneeds hfree]
      exact ⟨rfl, rfl, rfl, rfl, rfl, .inl rfl, rfl, rfl, rfl, rfl, rfl, rfl, rfl, CaptureList.hasFree_of_reserve,
        fun e => nomatch e⟩
    · rw [State.takeWrite_full hneeds hfree]
      split
      · exact .of_passage _ _ fun e => nomatch e
      · exact .of_passage _ _ fun _ => by simpa using hfree
  · rw [State.takeWrite_unneeded hneeds]
    exact .of_passage _ _ fun e => nomatch e

theorem State.taken_nothingNew (s : State) (cycle : PresentedCycle) : s.NothingNew (s.taken cycle) := by
  cases cycle with
  | read a => exact .of_passage _ _ fun e => nomatch e
  | write a ubs lbs data => exact s.takeWrite_nothingNew a ubs lbs data

/-- A cycle is taken alike whether or not it was presented before. -/
theorem State.taken_of_presented (s : State) (cycle : PresentedCycle) (c : Option PresentedCycle) :
    State.taken { s with passage := { s.passage with presented := c } } cycle = s.taken cycle := by
  cases cycle <;> rfl

/-! ### The one step that is due -/

theorem occur_of_due {due row : State → Option State} (hs : due s = some t) (ht : due t = none) :
    occur due row s = occur due row t := by
  simp only [occur, settle, hs, ht, settle_of_none]

theorem dueAny_none_of (hu : dueUrgent s = none) (hseen : rowSeenAtOnce s = none) (hh : s.control.handOvers = [])
    (hi : takePresented s = none) (hc : s.port.current ≠ none) : dueAny s = none := by
  simp only [dueAny, hu, hseen, rowHandOver_none hh, rowPresentedOrGrant, hi, rowGrantDecision_none hc, Option.none_or,
    Option.map_none, ite_self]

theorem dueInstant_of_takePresented (hp : s.por = false) (hu : dueUrgent s = none) (ht : takePresented s = some t) :
    dueInstant s = some t.afterEvent := by
  simp only [dueInstant, hu, hp, rowPresentedOrGrant, ht, Bool.false_eq_true, if_false, Option.none_or, Option.some_or,
    Option.map_some]

theorem dueAny_of_takePresented (hp : s.por = false) (hu : dueUrgent s = none) (hseen : rowSeenAtOnce s = none)
    (hh : s.control.handOvers = []) (ht : takePresented s = some t) : dueAny s = some t.afterEvent := by
  simp only [dueAny, hu, hp, hseen, rowHandOver_none hh, rowPresentedOrGrant, ht, Bool.false_eq_true, if_false,
    Option.none_or, Option.some_or, Option.map_some]

/-- The rows that wait for the take of a presented cycle. -/
theorem dueBefore_late {c : Instr} (he : ∀ straps, c ≠ .porEnd straps)
    (hc : c ∉ [.porAssert, .stagedWrite, .commit, .restartPanel, .stopPanel, .clearFaults, .release, .startCopy,
      .cancelCopy, .resweepAll, .reportNow, .unknownCommand, .grantDecision, .heldWritePlaced, .commitApply,
      .captureItem, .resweepItem, .wipeItem, .freeEntryWaitEnd, .reportBlockGrant, .copyPlaceGiven]) :
    dueBefore c = dueInstant ∨ dueBefore c = dueAny := by
  cases c <;> simp_all [dueBefore]

/-- Settles O8: cycles wait, and then the one presented is taken before any other row. -/
theorem cyclesWaitWhileSysclrIsAsserted : Obligations.CyclesWaitWhileSysclrIsAsserted := by
  refine ⟨fun s hs hl hn => ?_, fun s cycle hp hl hn hc hu => ⟨?_, fun hseen hh hg => ?_⟩⟩
  · have hw : (s.por || s.sysclr) = true := by rw [hl, Bool.or_true]
    exact ⟨fun a => exec_of_row (c := .busRead a) hs.2 (rowBusRead_waits hw hn),
      fun a ubs lbs data => exec_of_row (c := .busWrite a ubs lbs data) hs.2 (rowBusWrite_waits hw hn),
      exec_of_row (c := .sysclrNegate) hs.2 (if_pos hl)⟩
  · rintro a rfl
    exact dueInstant_of_takePresented hp hu (takePresented_taken hp hl hn hc)
  · have htake := takePresented_taken hp hl hn hc
    have hholds : s.passage.holds = false := by simp only [Passage.holds, hn]
    have quiet {t : State} (k : s.NothingNew t) (hi : takePresented t = none) : dueAny t = none :=
      dueAny_none_of (k.dueUrgent hp hholds hu) (rowSeenAtOnce_none_of k.seq k.standing hseen) (by rw [k.control, hh]) hi
        (by rwa [k.current])
    have hafter : (s.taken cycle).afterEvent.passage = (s.taken cycle).passage := by simp
    obtain ⟨hhand, hpres⟩ := s.taken_inHand cycle
    have hany := dueAny_of_takePresented hp hu hseen hh htake
    have hinstant := dueInstant_of_takePresented hp hu htake
    have hdone : dueAny (s.taken cycle).afterEvent = none :=
      quiet (s.taken_nothingNew cycle).afterEvent (takePresented_none (by rwa [hafter]))
    have hwithout : dueAny { s with passage := { s.passage with presented := none } } = none :=
      quiet (.of_passage _ s.port.passWaiting fun e => Bool.noConfusion (hholds.symm.trans e))
        (by simp [takePresented])
    refine ⟨_, ?_, by rwa [hafter], by rwa [hafter], hany, hinstant, fun c he hnot => ?_⟩
    · have hrow := rowOf_command (s := { s with passage := { s.passage with presented := none } }) (cycle := cycle) hp hl hn
      rw [State.taken_of_presented] at hrow
      have hnext := exec_of_row hwithout hrow
      cases cycle <;> exact hnext
    · rw [exec_eq_occur, exec_eq_occur]
      obtain e | e := dueBefore_late he hnot <;> rw [e]
      exacts [occur_of_due hinstant (dueInstant_of_dueAny hdone), occur_of_due hany hdone]

end Sys2Proof.Machine
end

section
/-! PROOFS. The stale set's offer (spec/05 5.3): with no line in hand it is the first line, in circular order from the
position, whose flag is set and whose hold is 0. The lines in circular order are the list rotated to the position. -/

namespace Sys2Proof.Machine

/-! ### The circular search (R70) -/

/-- The line may be begun: its flag is set and no record holds it (R70). -/
def StaleLine.servable (x : StaleLine) : Bool := x.stale && decide (x.hold = 0)

theorem StaleLine.servable_iff {x : StaleLine} : x.servable = true ↔ x.stale = true ∧ x.hold = 0 := by
  simp [StaleLine.servable]

theorem firstServable_cons (i : Nat) (x : StaleLine) (xs : List StaleLine) :
    firstServable i (x :: xs) = if x.servable = true then some i else firstServable (i + 1) xs := rfl

theorem firstServable_eq_findIdx? (i : Nat) (xs : List StaleLine) :
    firstServable i xs = (xs.findIdx? StaleLine.servable).map (· + i) := by
  induction xs generalizing i with
  | nil => rfl
  | cons x xs ih =>
    rw [firstServable_cons, List.findIdx?_cons, ih]
    by_cases hx : x.servable = true
    · rw [if_pos hx, if_pos hx, Option.map_some, Nat.zero_add]
    · rw [if_neg hx, if_neg hx, Option.map_map]
      congr 1
      funext k
      simp only [Function.comp_apply]
      omega

/-- The lines in circular order from the position (R70). -/
def StaleSet.fromPosition (t : StaleSet) : List StaleLine := t.lines.toList.rotate t.posLine

theorem StaleSet.fromPosition_length (t : StaleSet) : t.fromPosition.length = 512 := by
  simp [StaleSet.fromPosition]

theorem StaleSet.fromPosition_getElem (t : StaleSet) (k : Nat) (h : k < t.fromPosition.length) :
    t.fromPosition[k] = t.lines[(k + t.posLine) % 512]'(Nat.mod_lt _ (by decide)) := by
  simp [StaleSet.fromPosition, List.getElem_rotate]

/-- A line stands in the circular order at its distance from the position. -/
theorem StaleSet.fromPosition_distance (t : StaleSet) (hp : t.posLine < 512) (l : Fin 512)
    (h : (l.val + 512 - t.posLine) % 512 < t.fromPosition.length) :
    t.fromPosition[(l.val + 512 - t.posLine) % 512] = t.lines[l] := by
  have hback : ((l.val + 512 - t.posLine) % 512 + t.posLine) % 512 = l.val := by omega
  rw [StaleSet.fromPosition_getElem]
  simp only [hback, Fin.getElem_fin]

theorem StaleSet.mem_fromPosition {t : StaleSet} {x : StaleLine} :
    x ∈ t.fromPosition ↔ ∃ l : Fin 512, t.lines[l] = x := by
  simp [StaleSet.fromPosition, Vector.mem_iff_getElem, Fin.exists_iff]

theorem StaleSet.offer_of_inHand {t : StaleSet} (hw : t.posWord ≠ 0) : t.offer = some ⟨t.posLine, t.posWord⟩ :=
  if_pos hw

theorem StaleSet.offer_of_search {t : StaleSet} (hp : t.posLine < 512) (hw : t.posWord = 0) : t.offer =
    (t.fromPosition.findIdx? StaleLine.servable).map fun k => ⟨(k + t.posLine) % 512, 0⟩ := by
  rw [StaleSet.offer, if_neg (not_not.2 hw), firstServable_eq_findIdx?, firstServable_eq_findIdx?,
    StaleSet.fromPosition, List.rotate_eq_drop_append_take (by simpa using hp.le), List.findIdx?_append]
  cases hfar : (t.lines.toList.drop t.posLine).findIdx? StaleLine.servable with
  | some k =>
    obtain ⟨hk, -⟩ := List.findIdx?_eq_some_iff_getElem.1 hfar
    have hline : (k + t.posLine) % 512 = k + t.posLine := by simp at hk; omega
    simp only [Option.map_some, Option.some_or, hline]
  | none =>
    cases hnear : (t.lines.toList.take t.posLine).findIdx? StaleLine.servable with
    | none => rfl
    | some k =>
      obtain ⟨hk, -⟩ := List.findIdx?_eq_some_iff_getElem.1 hnear
      have hline : (k + (t.lines.toList.drop t.posLine).length + t.posLine) % 512 = k := by simp at hk ⊢; omega
      simp only [Option.map_some, Option.map_none, Option.none_or, hline, Nat.add_zero]

/-- R70: nothing is offered when every set flag is held. -/
theorem StaleSet.offer_eq_none_iff {t : StaleSet} (hp : t.posLine < 512) (hw : t.posWord = 0) :
    t.offer = none ↔ ∀ l : Fin 512, ¬(t.lines[l].stale = true ∧ t.lines[l].hold = 0) := by
  simp only [StaleSet.offer_of_search hp hw, Option.map_eq_none_iff, List.findIdx?_eq_none_iff,
    StaleSet.mem_fromPosition, forall_exists_index, forall_apply_eq_imp_iff, ← StaleLine.servable_iff,
    Bool.not_eq_true]

/-- R70: the line offered may be begun, and no line nearer to the position may be. -/
theorem StaleSet.offer_nearest {t : StaleSet} (hp : t.posLine < 512) (hw : t.posWord = 0) {c : CellWord}
    (ho : t.offer = some c) : c.index = 0 ∧ ∃ h : c.line < 512, t.lines[c.line].servable = true ∧
      ∀ l : Fin 512, t.lines[l].servable = true →
        (c.line + 512 - t.posLine) % 512 ≤ (l.val + 512 - t.posLine) % 512 := by
  rw [StaleSet.offer_of_search hp hw] at ho
  obtain ⟨k, hfind, rfl⟩ := Option.map_eq_some_iff.1 ho
  obtain ⟨hk, hserve, hfirst⟩ := List.findIdx?_eq_some_iff_getElem.1 hfind
  rw [StaleSet.fromPosition_getElem] at hserve
  refine ⟨rfl, Nat.mod_lt _ (by decide), hserve, fun l hl => ?_⟩
  rw [StaleSet.fromPosition_length] at hk
  have hdist : ((k + t.posLine) % 512 + 512 - t.posLine) % 512 = k := by omega
  rw [hdist]
  by_contra hlt
  refine hfirst _ (not_le.1 hlt) ?_
  rwa [StaleSet.fromPosition_distance t hp]

/-! ### Marks and takes (R68, R69, R71) -/

@[simp] theorem StaleSet.lowerHolds_position (t : StaleSet) :
    t.lowerHolds.posLine = t.posLine ∧ t.lowerHolds.posWord = t.posWord := ⟨rfl, rfl⟩

/-- R71: after words 0 to 30 the line is in hand at its next word. -/
theorem StaleSet.takeWord_of_lt (t : StaleSet) {c : CellWord} (hi : c.index < 31) :
    (t.takeWord c).posLine = c.line ∧ (t.takeWord c).posWord = c.index + 1 :=
  ⟨if_neg hi.ne, if_neg hi.ne⟩

/-- R71: after word 31 the next search begins at the next line. -/
theorem StaleSet.takeWord_of_last (t : StaleSet) {c : CellWord} (hi : c.index = 31) :
    (t.takeWord c).posLine = (c.line + 1) % 512 ∧ (t.takeWord c).posWord = 0 :=
  ⟨if_pos hi, if_pos hi⟩

/-- Settles O26: marks and takes line by line, and the offer as the first line of the circular search. -/
theorem theStaleSetMarksAndMovesOn : Obligations.TheStaleSetMarksAndMovesOn := by
  refine ⟨fun t p depth l => ?_, fun t c l _ _ => ?_, fun t hp => ⟨StaleSet.offer_of_inHand, fun hw => ?_⟩⟩
  · obtain ⟨hmarkLine, hmarkWord⟩ := t.mark_position p depth
    obtain ⟨hlowerLine, hlowerWord⟩ := t.lowerHolds_position
    exact ⟨t.mark_lines p depth l, t.lowerHolds_lines l, hmarkLine, hmarkWord, hlowerLine, hlowerWord⟩
  · exact ⟨t.takeWord_lines c l, t.takeWord_of_lt, t.takeWord_of_last⟩
  · refine ⟨StaleSet.offer_eq_none_iff hp hw, fun c ho => ?_⟩
    obtain ⟨hi, hline, hserve, hnearest⟩ := StaleSet.offer_nearest hp hw ho
    obtain ⟨hstale, hhold⟩ := StaleLine.servable_iff.1 hserve
    exact ⟨hi, hline, hstale, hhold, fun l hs hh => hnearest l (StaleLine.servable_iff.2 ⟨hs, hh⟩)⟩

end Sys2Proof.Machine
end

section
/-! PROOFS. The address stage (spec/06): the pulse used lies inside phase A (R91), and every step keeps the sustain to
CLEARING and LIT, with every pulse inside its phase A (R80–R84, R86, R91, R94). -/

namespace Sys2Proof.Machine

variable {s t : State}

/-! ### The pulse used (R91) -/

theorem fitPulse_of_fits {a d w : Nat} (h : d + w ≤ a - 4) : fitPulse a d w = (d, w) := by
  simp only [fitPulse, if_neg (not_lt.2 h)]

/-- The width alone is cut, to what is left after the delay. -/
theorem fitPulse_of_width_cut {a d w : Nat} (h : a - 4 < d + w) (hd : d + 8 ≤ a - 4) :
    fitPulse a d w = (d, a - 4 - d) := by
  have hwidth : max 8 (a - 4 - d) = a - 4 - d := by omega
  have hfits : ¬a - 4 < d + (a - 4 - d) := by omega
  simp only [fitPulse, if_pos h, hwidth, if_neg hfits]

/-- The width is cut to 8, and the delay to what is left before it. -/
theorem fitPulse_of_both_cut {a d w : Nat} (h : a - 4 < d + w) (hd : a - 4 < d + 8) :
    fitPulse a d w = (a - 4 - 8, 8) := by
  have hwidth : max 8 (a - 4 - d) = 8 := by omega
  simp only [fitPulse, if_pos h, hwidth, if_pos hd]

/-- Settles O35: the pulse stands as set, or its width is cut, or its delay also. Phase A is at least 32, so that
4 + 8 + 4 eighths always fit, and no subtraction of the naturals is cut off at 0. -/
theorem thePulseUsedFitsPhaseA : Obligations.ThePulseUsedFitsPhaseA := by
  intro A D Wd hA hA' hD hD' hW hW' used
  rcases Nat.lt_or_ge (A - 4) (D + Wd) with hcut | hfits
  · rcases Nat.lt_or_ge (A - 4) (D + 8) with hboth | hwidth
    · rw [show used = (A - 4 - 8, 8) from fitPulse_of_both_cut hcut hboth, if_pos (by omega), if_pos (by omega)]
      omega
    · rw [show used = (D, A - 4 - D) from fitPulse_of_width_cut hcut hwidth, if_pos (by omega), if_neg (by omega)]
      omega
  · rw [show used = (D, Wd) from fitPulse_of_fits hfits, if_neg (by omega), if_neg (by omega)]
    omega

/-- What a pulse in hand satisfies in a phase A of `cycleA` eighths (R86, R91). -/
structure Pulse.Ok (p : Pulse) (cycleA : Nat) : Prop where
  delay : 4 ≤ p.delay
  width : 8 ≤ p.width
  ends : p.delay + p.width + 4 ≤ cycleA
  burst : ∀ line kind columns, p.op = .burst line kind columns → columns ≠ [] ∧ columns.length ≤ 32

/-- A pair of phase durations in the range of R84. -/
def Durations (a b : Nat) : Prop := (32 ≤ a ∧ a ≤ 128) ∧ 32 ≤ b ∧ b ≤ 128

theorem ParamSet.Valid.durations {p : ParamSet} {straps : BitVec 2} (h : p.Valid straps) :
    Durations p.phaseA p.phaseB := by
  obtain ⟨hA, hB, -⟩ := h.sustain
  exact ⟨hA, hB⟩

/-- R91: a pulse issued under a valid set fits the phase A of the cycle. -/
theorem State.pulseFor_ok (hv : s.standing.Valid s.straps) (hc : Durations s.address.cycleA s.address.cycleB)
    {op : PulseOp} (hop : ∀ line kind columns, op = .burst line kind columns → columns ≠ [] ∧ columns.length ≤ 32) :
    (s.pulseFor op).Ok s.address.cycleA := by
  obtain ⟨⟨hA, hA'⟩, -⟩ := hc
  obtain ⟨⟨hD, hD'⟩, hW, hW'⟩ := hv.pulse
  obtain ⟨-, -, hdelay, hwidth, hends⟩ := thePulseUsedFitsPhaseA _ _ _ hA hA' hD hD' hW hW'
  exact ⟨hdelay, hwidth, hends, hop⟩

/-- R86: at most the gather window is gathered. -/
theorem gathered_length_le {g : Nat} (hg : 1 ≤ g) (q : List CellOrder) : (gathered g q).length ≤ g := by
  cases q with
  | nil => exact Nat.zero_le g
  | cons head rest =>
    rw [gathered_eq_filter hg]
    exact (List.length_filter_le _ _).trans (List.length_take_le _ _)

/-! ### The stage by itself -/

/-- What always holds inside the address stage (R80–R82, R84, R86, R91, R94). -/
structure AddressStage.Ok (a : AddressStage) : Prop where
  stopped : a.running = false → a.phase = .notBegun ∧ a.tick = none ∧ a.pulse = none
  current : Durations a.currentA a.currentB
  cycle : Durations a.cycleA a.cycleB
  pulse : ∀ p, a.pulse = some p → a.phase = .a ∧ p.Ok a.cycleA
  erases : a.globalErases ≤ 8

section
variable {a : AddressStage} {n durationA durationB : Nat} {timer : Timer}

/-- Outside phase A no pulse is in hand. -/
theorem AddressStage.Ok.no_pulse (h : a.Ok) (hp : a.phase ≠ .a) : a.pulse = none :=
  Option.eq_none_iff_forall_ne_some.2 fun p e => hp (h.pulse p e).1

theorem AddressStage.Ok.por : AddressStage.por.Ok :=
  ⟨fun _ => ⟨rfl, rfl, rfl⟩, by unfold Durations; decide, by unfold Durations; decide, fun _ e => (nomatch e),
    Nat.zero_le 8⟩

/-- New current durations and a new count of erases leave cycle and pulse alone (R83, R94, R101). -/
theorem AddressStage.Ok.withDurations (h : a.Ok) (hd : Durations durationA durationB) (hn : n ≤ 8) :
    AddressStage.Ok { a with currentA := durationA, currentB := durationB, globalErases := n } :=
  ⟨h.stopped, hd, h.cycle, h.pulse, hn⟩

/-- R81: the sustain stops, and a pulse is cut short. -/
theorem AddressStage.Ok.stop (h : a.Ok) :
    AddressStage.Ok { a with running := false, phase := .notBegun, tick := none, pulse := none } :=
  ⟨fun _ => ⟨rfl, rfl, rfl⟩, h.current, h.cycle, fun _ e => (nomatch e), h.erases⟩

/-- R81, R94: the sustain starts from standing still, with the erases to come. -/
theorem AddressStage.Ok.start (h : a.Ok) (hr : a.running = false) (hd : Durations durationA durationB) :
    AddressStage.Ok { a with running := true, phase := .notBegun, currentA := durationA, currentB := durationB
                             tick := timer, globalErases := 0 } :=
  ⟨fun e => (nomatch e), hd, h.cycle, fun _ e => (nomatch (h.stopped hr).2.2.symm.trans e), Nat.zero_le 8⟩

/-- R84: an applied commit sets the current durations at most, and the timer of a running sustain. -/
theorem AddressStage.Ok.applyCommit (h : a.Ok) (old : ParamSet) {new : ParamSet}
    (hd : Durations new.phaseA new.phaseB) : (a.applyCommit old new).Ok := by
  rw [AddressStage.applyCommit_eq]
  refine ⟨fun hr => ?_, ?_, h.cycle, h.pulse, h.erases⟩
  · obtain ⟨hphase, htick, hpulse⟩ := h.stopped hr
    exact ⟨hphase, (if_neg fun hc => Bool.false_ne_true (hr.symm.trans hc.1)).trans htick, hpulse⟩
  · dsimp only
    split
    · exact hd
    · exact h.current

/-- R82: a cycle begins at the current durations. -/
theorem AddressStage.Ok.openCycle (h : a.Ok) (hr : a.running = true) (hp : a.phase ≠ .a) :
    AddressStage.Ok { a with cycleA := a.currentA, cycleB := a.currentB, phase := .a } :=
  ⟨fun e => (nomatch hr.symm.trans e), h.current, h.current, fun _ e => (nomatch (h.no_pulse hp).symm.trans e),
    h.erases⟩

/-- R82: phase B starts with no pulse in hand. -/
theorem AddressStage.Ok.phaseB (h : a.Ok) (hr : a.running = true) (hp : a.pulse = none) :
    AddressStage.Ok { a with phase := .b } :=
  ⟨fun e => (nomatch hr.symm.trans e), h.current, h.cycle, fun _ e => (nomatch hp.symm.trans e), h.erases⟩

/-- A pulse in phase A is taken in hand, goes on, or ends (R86, R92, R94). -/
theorem AddressStage.Ok.withPulse (h : a.Ok) {pulse : Option Pulse} {cells : BitVec 32} {dropped : Word}
    (hp : ∀ p, pulse = some p → a.phase = .a ∧ p.Ok a.cycleA) (hn : n ≤ 8) : AddressStage.Ok
      { a with globalErases := n, cellsAddressed := cells, droppedOrders := dropped, pulse := pulse } := by
  refine ⟨fun hr => ?_, h.current, h.cycle, hp, hn⟩
  obtain ⟨hphase, htick, -⟩ := h.stopped hr
  exact ⟨hphase, htick, Option.eq_none_iff_forall_ne_some.2 fun p e => nomatch hphase.symm.trans (hp p e).1⟩

end

/-- R83: one eighth toward a value in a range does not leave the range. -/
theorem stepToward_bounds {lo hi current target : Nat} (hc : lo ≤ current ∧ current ≤ hi)
    (ht : lo ≤ target ∧ target ≤ hi) : lo ≤ stepToward current target ∧ stepToward current target ≤ hi := by
  unfold stepToward
  split_ifs <;> omega

theorem Durations.ramp {a b a' b' : Nat} (hc : Durations a b) (ht : Durations a' b') :
    Durations (stepToward a a') (stepToward b b') :=
  ⟨stepToward_bounds hc.1 ht.1, stepToward_bounds hc.2 ht.2⟩

/-! ### When the rows of the stage come about (R82, R92) -/

theorem rowSustainCycleStart_eq_some_iff : rowSustainCycleStart s = some t ↔
    (s.address.running = true ∧ s.address.phase ≠ .a) ∧ s.openCycle.slot = t := by
  simp only [rowSustainCycleStart, Option.ite_none_right_eq_some, Option.some.injEq]

theorem rowPhaseBStart_eq_some_iff : rowPhaseBStart s = some t ↔
    (s.address.running = true ∧ s.address.phase = .a ∧ s.address.pulse = none) ∧
      { s with address := { s.address with phase := .b } } = t := by
  simp only [rowPhaseBStart, Option.ite_none_right_eq_some, Option.some.injEq]

theorem rowAddressPulseStart_eq_some_iff : rowAddressPulseStart s = some t ↔
    ∃ p, (s.address.pulse = some p ∧ p.strobe = false) ∧
      { s with address := { s.address with pulse := some { p with strobe := true } } } = t := by
  unfold rowAddressPulseStart
  cases s.address.pulse with
  | none => simp
  | some p => cases hp : p.strobe <;> simp [hp]

/-! ### The sustain and the panel state (R80, R81) -/

/-- The address stage is in order, and while POR is negated its sustain runs exactly in CLEARING and LIT. -/
structure State.SustainOk (s : State) : Prop where
  stage : s.address.Ok
  running : s.por = false → s.address.running = s.seq.panel.addressed

theorem State.addressOk_iff : s.AddressOk ↔ s.SetsOk ∧ s.SustainOk := by
  constructor
  · intro h
    refine ⟨h.sets, ⟨h.stopped, h.current, h.cycle, fun p hp => ?_, h.erases⟩, h.running⟩
    obtain ⟨hphase, hdelay, hwidth, hends⟩ := h.pulse p hp
    exact ⟨hphase, hdelay, hwidth, hends, fun line kind columns => h.burst p line kind columns hp⟩
  · rintro ⟨hsets, hstage, hrun⟩
    refine ⟨hsets, hrun, hstage.stopped, hstage.current, hstage.cycle, fun p hp => ?_,
      fun p line kind columns hp => (hstage.pulse p hp).2.burst line kind columns, hstage.erases⟩
    obtain ⟨hphase, hok⟩ := hstage.pulse p hp
    exact ⟨hphase, hok.delay, hok.width, hok.ends⟩

/-- Between `s` and `t` the address stage stood, and the panel did not enter or leave CLEARING and LIT. -/
structure State.SustainStands (s t : State) : Prop where
  address : t.address = s.address
  addressed : t.seq.panel.addressed = s.seq.panel.addressed

theorem State.SustainStands.sustainOk (k : s.SustainStands t) (h : s.SustainOk) (hp : s.por = false) : t.SustainOk where
  stage := k.address ▸ h.stage
  running _ := by rw [k.address, k.addressed]; exact h.running hp

/-- R99: the entry to LIT is from CLEARING. -/
theorem State.noteErases_addressed (s : State) : s.noteErases.seq.panel.addressed = s.seq.panel.addressed := by
  obtain ⟨-, e⟩ | ⟨-, -, e⟩ | ⟨hc, -, e⟩ := s.noteErases_cases <;> rw [e]
  rw [hc]; rfl

theorem State.noteWipe_addressed (s : State) : s.noteWipe.seq.panel.addressed = s.seq.panel.addressed := by
  obtain ⟨-, e⟩ | ⟨-, -, e⟩ | ⟨hc, -, e⟩ := s.noteWipe_cases <;> rw [e]
  rw [hc]; rfl

/-- The rows that move the address stage, or the panel into or out of CLEARING and LIT. -/
inductive SustainRow : (State → Option State) → Prop
  | restartPanel : SustainRow rowRestartPanel
  | stopPanel : SustainRow rowStopPanel
  | commitApply : SustainRow rowCommitApply
  | sustainCycleStart : SustainRow rowSustainCycleStart
  | phaseBStart : SustainRow rowPhaseBStart
  | addressPulseStart : SustainRow rowAddressPulseStart
  | addressPulseEnd : SustainRow rowAddressPulseEnd
  | rampTick : SustainRow rowRampTick
  | hvokSeen : SustainRow rowHvokSeen
  | hvokLost : SustainRow rowHvokLost
  | hvocSeen : SustainRow rowHvocSeen
  | groupStrike (axis : Axis) (g : Nat) : SustainRow (rowGroupStrike axis g)
  | chargeTimeout : SustainRow rowChargeTimeout

/-- A command that leaves the sustain alone, with its take and its record. -/
theorem commandRow_sustainStands {isMine : Byte → Bool} {act : State → State × CommandOutcome}
    (hact : ∀ u : State, u.SustainStands (act u).1) (h : commandRow isMine act s = some t) : s.SustainStands t :=
  commandRow_keeps (P := fun u => s.SustainStands u)
    (fun k o rest => ⟨by simpa using k.address, by simpa using k.addressed⟩)
    (fun k code o => ⟨by simpa using k.address, by simpa using k.addressed⟩)
    (fun k => ⟨(hact _).address.trans k.address, (hact _).addressed.trans k.addressed⟩) h ⟨rfl, rfl⟩

/-- Every other row of the blocks leaves the sustain alone. -/
theorem InnerRow.sustain {row : State → Option State} (hr : InnerRow row) (h : row s = some t) :
    SustainRow row ∨ s.SustainStands t := by
  cases hr
  case stallExpiry =>
    obtain ⟨a, l, w, -, rfl⟩ := rowStallExpiry_cases h
    exact .inr ⟨by simp, by simp⟩
  case heldWritePlaced =>
    obtain ⟨a, l, w, -, -, rfl⟩ := rowHeldWritePlaced_cases h
    exact .inr ⟨by simp, by simp⟩
  case passthroughReadDone =>
    obtain ⟨a, -, -, rfl⟩ := rowPassthroughReadDone_cases h
    exact .inr ⟨by simp, by simp⟩
  case passthroughWriteDone =>
    obtain ⟨a, lanes, w, d, -, -, ⟨-, rfl⟩ | ⟨l, -, rfl⟩⟩ := rowPassthroughWriteDone_cases h <;>
      exact .inr ⟨by simp, by simp⟩
  case stagedWrite =>
    obtain ⟨o, rest, rfl⟩ := rowStagedWrite_cases h
    exact .inr ⟨by simp, by simp⟩
  case commit =>
    refine .inr (commandRow_sustainStands (fun u => ?_) h)
    obtain e | e | ⟨-, e⟩ := u.doCommit_cases <;> rw [e] <;> exact ⟨rfl, rfl⟩
  case clearFaults =>
    refine .inr (commandRow_sustainStands (fun u => ?_) h)
    obtain ⟨f, ⟨-, e⟩ | e⟩ := u.doClearFaults_cases <;> rw [e] <;> exact ⟨rfl, rfl⟩
  case release =>
    exact .inr (commandRow_sustainStands (fun u => ⟨by simp [State.doRelease], by simp [State.doRelease]⟩) h)
  case startCopy =>
    refine .inr (commandRow_sustainStands (fun u => ?_) h)
    obtain e | ⟨-, e⟩ := u.doStartCopy_cases <;> rw [e] <;> exact ⟨by simp, by simp⟩
  case cancelCopy =>
    refine .inr (commandRow_sustainStands (fun u => ?_) h)
    obtain e | ⟨-, -, ⟨-, e⟩ | ⟨-, e⟩⟩ := u.doCancelCopy_cases <;> rw [e] <;> exact ⟨by simp, by simp⟩
  case resweepAll =>
    refine .inr (commandRow_sustainStands (fun u => ?_) h)
    obtain e | e := u.doResweepAll_cases <;> rw [e] <;> exact ⟨rfl, rfl⟩
  case reportNow => exact .inr (commandRow_sustainStands (fun _ => ⟨rfl, rfl⟩) h)
  case unknownCommand => exact .inr (commandRow_sustainStands (fun _ => ⟨rfl, rfl⟩) h)
  case captureItem =>
    obtain ⟨r, rest, -, -, -, rfl⟩ := rowCaptureItem_cases h
    exact .inr ⟨by simp [State.captureTaken], by simp [State.captureTaken]⟩
  case resweepItem =>
    obtain ⟨c, -, -, -, rfl⟩ := rowResweepItem_cases h
    exact .inr ⟨by simp [State.resweepTaken], by simp [State.resweepTaken]⟩
  case wipeItem =>
    obtain ⟨-, -, -, rfl⟩ := rowWipeItem_cases h
    exact .inr ⟨rfl, rfl⟩
  case freeEntryWaitEnd =>
    obtain ⟨-, ⟨r, c, rest, -, rfl⟩ | ⟨c, got, toRead, -, rfl⟩⟩ := rowFreeEntryWaitEnd_cases h <;>
      exact .inr ⟨by simp, by simp⟩
  case pictureReadDone =>
    obtain ⟨a, ⟨-, rfl⟩ | ⟨-, c, got, b, more, -, rfl⟩⟩ := rowPictureReadDone_cases h <;>
      exact .inr ⟨by simp, by simp⟩
  case cellWordReadDone =>
    obtain ⟨a, ⟨-, rfl⟩ | ⟨-, i, c, -, -, -, rfl⟩⟩ := rowCellWordReadDone_cases h <;> exact .inr ⟨by simp, by simp⟩
  case writeBackDone =>
    obtain ⟨a, w, ⟨-, rfl⟩ | ⟨-, i, -, rfl⟩⟩ := rowWriteBackDone_cases h <;> exact .inr ⟨by simp, by simp⟩
  case wipeWriteDone =>
    obtain ⟨a, ⟨-, rfl⟩ | ⟨-, ⟨-, rfl⟩ | ⟨-, rfl⟩⟩⟩ := rowWipeWriteDone_cases h
    · exact .inr ⟨rfl, rfl⟩
    · exact .inr ⟨rfl, rfl⟩
    · exact .inr ⟨by simp [State.wipeWritten], State.noteWipe_addressed _⟩
  case restEnd =>
    obtain ⟨hc, ⟨-, rfl⟩ | ⟨-, rfl⟩⟩ := rowRestEnd_cases h <;> exact .inr ⟨by simp, by rw [hc]; rfl⟩
  case litDurationExpiry =>
    obtain ⟨-, rfl⟩ := rowLitDurationExpiry_cases h
    exact .inr ⟨rfl, rfl⟩
  case refreshDue => rw [rowRefreshDue_cases h]; exact .inr ⟨rfl, rfl⟩
  case refreshDone =>
    obtain ⟨-, rfl⟩ := rowRefreshDone_cases h
    exact .inr ⟨rfl, rfl⟩
  case grantDecision =>
    obtain ⟨-, q, rfl, -⟩ := rowGrantDecision_cases h
    exact .inr ⟨rfl, rfl⟩
  case reportBlockGrant =>
    obtain ⟨-, rfl⟩ := rowReportBlockGrant_cases h
    exact .inr ⟨by simp, by simp⟩
  case reportBlockDone =>
    obtain ⟨words, -, rfl⟩ := rowReportBlockDone_cases h
    exact .inr ⟨by simp, by simp⟩
  case imageGrantDone =>
    obtain ⟨n, u, -, hu, h⟩ := rowImageGrantDone_cases h
    have hk : s.SustainStands u := hu ▸ ⟨by simp, by simp⟩
    obtain ⟨-, rfl⟩ | rfl := h
    · exact .inr ⟨hk.address, hk.addressed⟩
    · exact .inr ⟨by simpa using hk.address, by simpa using hk.addressed⟩
  case copyReadDone =>
    obtain ⟨a, ⟨-, rfl⟩ | ⟨-, -, ⟨-, rfl⟩ | ⟨-, rfl⟩⟩⟩ := rowCopyReadDone_cases h <;> exact .inr ⟨by simp, by simp⟩
  case copyPlaceGiven =>
    obtain ⟨w, -, -, rfl⟩ := rowCopyPlaceGiven_cases h
    exact .inr ⟨by simp, by simp⟩
  case copyWriteDone =>
    obtain ⟨a, w, ⟨-, rfl⟩ | ⟨-, v, d, q, -, -, rfl⟩⟩ := rowCopyWriteDone_cases h <;> exact .inr ⟨by simp, by simp⟩
  case presented =>
    obtain ⟨-, ⟨a, rfl⟩ | ⟨a, v, b, w, rfl⟩⟩ := takePresented_cases h <;> exact .inr ⟨by simp, by simp⟩
  all_goals exact .inl (by constructor)

/-! ### The slot (R82, R85) -/

/-- R86–R88: a take leaves the stage in order. -/
theorem State.SustainOk.takeBurst (h : s.SustainOk) (hv : s.standing.Valid s.straps) (ha : s.address.phase = .a)
    (head : CellOrder) : (s.takeBurst head).SustainOk := by
  obtain ⟨⟨hg, hg'⟩, -⟩ := hv.other
  rw [State.takeBurst_eq head rfl rfl rfl]
  refine ⟨h.stage.withPulse (fun p hp => ⟨ha, ?_⟩) h.stage.erases, h.running⟩
  rw [Option.ite_none_left_eq_some] at hp
  obtain ⟨hne, hp⟩ := hp
  cases hp
  refine State.pulseFor_ok hv h.stage.cycle fun line kind columns e => ?_
  cases e
  have hfew : (s.inService (gathered s.standing.gatherWindow s.queue)).length ≤ s.standing.gatherWindow :=
    (List.length_filter_le _ _).trans (gathered_length_le hg s.queue)
  exact ⟨by simpa using hne, by simpa using hfew.trans hg'⟩

/-- R94, R99: a global erase leaves the stage in order, also where it enters LIT. -/
theorem State.SustainOk.globalErase (h : s.SustainOk) (hv : s.standing.Valid s.straps) (ha : s.address.phase = .a)
    (hlt : s.address.globalErases < 8) : s.globalErase.SustainOk := by
  have he : s.erasing.SustainOk :=
    ⟨h.stage.withPulse (fun p hp => ⟨ha, by
      cases hp
      exact State.pulseFor_ok hv h.stage.cycle fun _ _ _ e => nomatch e⟩) hlt, h.running⟩
  obtain ⟨-, e⟩ | ⟨-, e⟩ := s.globalErase_cases <;> rw [e]
  · exact he
  · refine ⟨by simpa using he.stage, fun hp => ?_⟩
    rw [State.noteErases_addressed]
    simpa using he.running (by simpa using hp)

theorem State.SustainOk.slot (h : s.SustainOk) (hv : s.standing.Valid s.straps) (ha : s.address.phase = .a) :
    s.slot.SustainOk := by
  obtain e | ⟨-, hlt, e⟩ | ⟨head, rest, -, -, e⟩ := s.slot_cases <;> rw [e]
  · exact h
  · exact h.globalErase hv ha hlt
  · exact h.takeBurst hv ha head

/-! ### The rows -/

/-- A soft restart in CLEARING or LIT: the sustain runs on at the standing durations (R81, R101). -/
theorem State.SustainOk.softRestart (h : s.SustainOk) (hv : s.standing.Valid s.straps) (hp : s.por = false)
    (hc : s.seq.panel.addressed = true) : s.softRestart.SustainOk where
  stage := h.stage.withDurations hv.durations (Nat.zero_le 8)
  running _ := (h.running hp).trans hc

/-- R81, R102: at a recovery the sustain stops. -/
theorem State.Faults.sustainOk (k : s.Faults t) (h : s.SustainOk) : t.SustainOk := by
  obtain ⟨-, q, k, -, rfl⟩ := k
  obtain ⟨-, e⟩ | ⟨-, e⟩ := State.recover_cases (State.enterFault { s with seq := q } k) <;> rw [e] <;>
    exact ⟨h.stage.stop, fun _ => rfl⟩

/-- R81, R105: at an entry to DARK the sustain stops. -/
theorem State.SustainOk.enterDark (h : s.SustainOk) : s.enterDark.SustainOk := ⟨h.stage.stop, fun _ => rfl⟩

/-- A command that keeps the sustain in order, with its take and its record. -/
theorem commandRow_sustainOk {isMine : Byte → Bool} {act : State → State × CommandOutcome} (hp : s.por = false)
    (hact : ∀ {u : State}, u.por = false → u.SetsOk → u.SustainOk → (act u).1.SustainOk)
    (h : commandRow isMine act s = some t) (hs : s.SetsOk) (hu : s.SustainOk) : t.SustainOk := by
  obtain ⟨o, rest, -, -, -, rfl⟩ := commandRow_cases h
  have htake := s.takeHandOver_keepsPicture o rest
  have hdone := hact (htake.por.trans hp) (htake.setsOk hs)
    (State.SustainStands.sustainOk ⟨by simp, by simp⟩ hu hp)
  exact ⟨by simpa using hdone.stage, fun h => by simpa using hdone.running (by simpa using h)⟩

theorem SustainRow.sustainOk {row : State → Option State} (hr : SustainRow row) (hp : s.por = false) (hs : s.SetsOk)
    (hu : s.SustainOk) (h : row s = some t) : t.SustainOk := by
  cases hr
  case restartPanel =>
    refine commandRow_sustainOk hp (fun {u} hp hs hu => ?_) h hs hu
    obtain e | ⟨hd, e⟩ | ⟨hc, e⟩ := u.doRestart_cases <;> rw [e]
    · exact hu
    · exact State.SustainStands.sustainOk ⟨by simp, by rw [hd]; rfl⟩ hu hp
    · exact hu.softRestart hs.standing hp (PanelState.addressed_iff.2 hc)
  case stopPanel =>
    refine commandRow_sustainOk hp (fun {u} _ _ hu => ?_) h hs hu
    obtain e | e := u.doStop_cases <;> rw [e]
    · exact hu
    · exact hu.enterDark
  case commitApply =>
    obtain ⟨new, -, hc, hcase⟩ := rowCommitApply_cases h
    have hnew := hs.checked new hc
    have happlied : (s.commitApplied new).SustainOk := ⟨hu.stage.applyCommit s.standing hnew.durations, hu.running⟩
    obtain ⟨-, ha, rfl⟩ | ⟨-, rfl⟩ := hcase
    · exact happlied.softRestart hnew hp ha
    · exact happlied
  case sustainCycleStart =>
    obtain ⟨⟨hrun, hphase⟩, rfl⟩ := rowSustainCycleStart_eq_some_iff.1 h
    have hopen : s.openCycle.SustainOk := ⟨hu.stage.openCycle hrun hphase, hu.running⟩
    exact hopen.slot hs.standing rfl
  case phaseBStart =>
    obtain ⟨⟨hrun, -, hpulse⟩, rfl⟩ := rowPhaseBStart_eq_some_iff.1 h
    exact ⟨hu.stage.phaseB hrun hpulse, hu.running⟩
  case addressPulseStart =>
    obtain ⟨p, ⟨hpulse, -⟩, rfl⟩ := rowAddressPulseStart_eq_some_iff.1 h
    obtain ⟨hphase, hok⟩ := hu.stage.pulse p hpulse
    exact ⟨hu.stage.withPulse (fun q hq => by cases hq; exact ⟨hphase, hok.delay, hok.width, hok.ends, hok.burst⟩)
      hu.stage.erases, hu.running⟩
  case addressPulseEnd =>
    rw [rowAddressPulseEnd_cases h]
    exact ⟨hu.stage.withPulse (fun _ e => nomatch e) hu.stage.erases, hu.running⟩
  case rampTick =>
    rw [rowRampTick_cases h]
    exact ⟨hu.stage.withDurations (hu.stage.current.ramp hs.standing.durations) hu.stage.erases, hu.running⟩
  case hvokSeen =>
    obtain ⟨hc, rfl⟩ := rowHvokSeen_cases h
    have hstill : s.address.running = false := by rw [hu.running hp, hc]; rfl
    exact ⟨hu.stage.start hstill hs.standing.durations, fun _ => rfl⟩
  case hvokLost => exact (rowHvokLost_cases h).sustainOk hu
  case hvocSeen => exact (rowHvocSeen_cases h).sustainOk hu
  case groupStrike => exact (rowGroupStrike_cases h).sustainOk hu
  case chargeTimeout => exact (rowChargeTimeout_cases h).sustainOk hu

theorem State.KeepsPicture.sustainOk (k : s.KeepsPicture t) (ha : t.address = s.address) (h : s.SustainOk) :
    t.SustainOk where
  stage := ha ▸ h.stage
  running hp := by rw [ha, k.seq]; exact h.running (k.por ▸ hp)

theorem PinRow.sustainOk {row : State → Option State} (hr : PinRow row) (hu : s.SustainOk) (h : row s = some t) :
    t.SustainOk := by
  cases hr
  case porAssert =>
    obtain ⟨-, rfl⟩ := rowPorAssert_cases h
    exact ⟨hu.stage.stop, fun e => nomatch e⟩
  case porEnd =>
    obtain ⟨-, rfl⟩ := rowPorEnd_cases h
    exact ⟨.por, fun _ => rfl⟩
  case sysclr =>
    obtain ⟨-, rfl⟩ | ⟨hp, rfl⟩ := rowSysclr_cases h
    · exact ⟨hu.stage, hu.running⟩
    · have habort : s.abortCopy.SustainOk := State.SustainStands.sustainOk ⟨by simp, by simp⟩ hu hp
      exact ⟨habort.enterDark.stage, habort.enterDark.running⟩
  case sysclrNegate =>
    rw [rowSysclrNegate_cases h]
    exact ⟨hu.stage, hu.running⟩
  case busRead =>
    refine (rowBusRead_keepsPicture h).sustainOk ?_ hu
    obtain ⟨-, rfl | ⟨-, rfl⟩⟩ := rowBusRead_cases h <;> simp
  case busWrite =>
    refine (rowBusWrite_keepsPicture h).sustainOk ?_ hu
    obtain ⟨-, rfl | ⟨-, rfl⟩⟩ := rowBusWrite_cases h <;> simp
  case faultInputChange =>
    obtain ⟨_, _, _, _, _, _, _, _, rfl⟩ := rowFaultInputChange_cases h
    exact ⟨hu.stage, hu.running⟩

/-- R80–R84, R86, R91, R94: every row keeps the address stage in order, under valid sets. -/
theorem addressOk_kept : KeptByRows State.AddressOk where
  pin hr hs h := by
    obtain ⟨hsets, hu⟩ := State.addressOk_iff.1 hs
    exact State.addressOk_iff.2 ⟨hr.setsOk hsets h, hr.sustainOk hu h⟩
  inner hr hp hs h := by
    obtain ⟨hsets, hu⟩ := State.addressOk_iff.1 hs
    refine State.addressOk_iff.2 ⟨setsOk_kept.inner hr hp hsets h, ?_⟩
    obtain hrow | hstands := hr.sustain h
    · exact hrow.sustainOk hp hsets hu h
    · exact hstands.sustainOk hu hp
  after hs := by
    obtain ⟨hsets, hu⟩ := State.addressOk_iff.1 hs
    exact State.addressOk_iff.2 ⟨setsOk_kept.after hsets, by simpa using hu.stage, by simpa using hu.running⟩
  pending hs := by
    obtain ⟨hsets, hu⟩ := State.addressOk_iff.1 hs
    exact State.addressOk_iff.2 ⟨setsOk_kept.pending hsets, hu.stage, hu.running⟩

/-- Settles O57: the sets and the stage are kept by every row; nothing of the queue is needed for it. -/
theorem everyStepKeepsTheAddressStage : Obligations.EveryStepKeepsTheAddressStage :=
  fun _ _ hs _ h => step_keeps addressOk_kept h hs

end Sys2Proof.Machine
end

section
/-! PROOFS. The slots that take no burst (R82, R85, R94, R99), the rows of phases, pulses and ramp (R82, R83, R92), and
the output pins of the address stage (R80, R92, R94). -/

namespace Sys2Proof.Machine

variable {s t : State}

/-! ### The slots that take no burst (R85, R94, R99) -/

theorem State.slot_clearing (hc : s.seq.panel = .clearing) (hn : s.address.globalErases < 8) :
    s.slot = s.globalErase := by
  simp only [State.slot, hc, if_pos hn]

/-- A slot with the erases done, or in LIT with no order, begins the cycle only. -/
theorem State.slot_idle (h : (s.seq.panel = .clearing ∧ 8 ≤ s.address.globalErases) ∨
    (s.seq.panel = .lit ∧ s.queue = [])) : s.slot = s := by
  obtain ⟨hc, hn⟩ | ⟨hl, hq⟩ := h
  · simp only [State.slot, hc, if_neg (not_lt.2 hn)]
  · simp only [State.slot, hl, hq]

theorem State.globalErase_of_lt (h : s.address.globalErases < 7) : s.globalErase = s.erasing := by
  obtain ⟨-, e⟩ | ⟨h8, -⟩ := s.globalErase_cases
  · exact e
  · omega

theorem State.globalErase_eighth (h : s.address.globalErases = 7) : s.globalErase = s.erasing.noteErases := by
  obtain ⟨h8, -⟩ | ⟨-, e⟩ := s.globalErase_cases
  · omega
  · exact e

/-- R99: the erases are the first completion. -/
theorem State.noteErases_first (hc : s.seq.panel = .clearing) (hw : s.seq.wipeDone = false) :
    s.noteErases = { s with seq := { s.seq with erasesDone := true } } := by
  simp only [State.noteErases, hc, hw, if_true, Bool.false_eq_true, if_false]

/-- R99, R100: the erases are the second completion. -/
theorem State.noteErases_second (hc : s.seq.panel = .clearing) (hw : s.seq.wipeDone = true) :
    s.noteErases = ({ s with seq := { s.seq with erasesDone := true } } : State).enterLit := by
  simp only [State.noteErases, hc, hw, if_true]

/-- R81: the first cycle of a started sustain is the first of the steps due at once. -/
theorem dueUrgent_of_firstCycle (hp : s.por = false) (hn : s.address.phase = .notBegun)
    (h : rowSustainCycleStart s = some t) : dueUrgent s = some t.afterEvent := by
  simp only [dueUrgent, hp, Bool.false_eq_true, if_false, hn, if_true, h, Option.some_or, Option.map_some]

/-- A cycle comes about with its slot: at once when it is the first, otherwise at its row. -/
theorem sustainCycle_comes (hp : s.por = false) (hr : s.address.running = true) (hn : s.address.phase ≠ .a)
    (h : s.openCycle.slot = t) : (s.address.phase = .notBegun → dueUrgent s = some t.afterEvent) ∧
      (s.ReadyInstant → exec .sustainCycleStart s = .next t.afterEvent) :=
  have hrow : rowSustainCycleStart s = some t := rowSustainCycleStart_eq_some_iff.2 ⟨⟨hr, hn⟩, h⟩
  ⟨fun hfirst => dueUrgent_of_firstCycle hp hfirst hrow, fun hs => occur_running_of_some hs.1 hs.2 hrow⟩

/-- Settles O33: each case is one value of the slot of the cycle that opens. -/
theorem aSlotInClearingErasesThePanel : Obligations.ASlotInClearingErasesThePanel := by
  intro s hp hr hn comes opened fit erased
  have hcomes : ∀ {t : State}, s.openCycle.slot = t → comes t := sustainCycle_comes hp hr hn
  have herasing : s.openCycle.erasing = erased := rfl
  have heighth (hc : s.seq.panel = .clearing) (h7 : s.address.globalErases = 7) :
      s.openCycle.slot = erased.noteErases := by
    rw [State.slot_clearing (s := s.openCycle) hc (by change s.address.globalErases < 8; omega),
      State.globalErase_eighth (s := s.openCycle) h7, herasing]
  refine ⟨fun hc hlt => hcomes ?_, fun hc h7 hw => hcomes ?_, fun hc h7 hw => hcomes ?_, fun h => hcomes ?_⟩
  · rw [State.slot_clearing (s := s.openCycle) hc (by change s.address.globalErases < 8; omega),
      State.globalErase_of_lt (s := s.openCycle) hlt, herasing]
  · exact (heighth hc h7).trans (State.noteErases_first (s := erased) hc hw)
  · exact (heighth hc h7).trans (State.noteErases_second (s := erased) hc hw)
  · exact State.slot_idle (s := s.openCycle) h

/-! ### The output pins (R80, R92, R94) -/

theorem State.susA_iff : s.susA = true ↔ s.address.running = true ∧ s.address.phase = .a := by
  simp only [State.susA, Bool.and_eq_true, decide_eq_true_eq]

theorem State.susB_iff : s.susB = true ↔ s.address.running = true ∧ s.address.phase = .b := by
  simp only [State.susB, Bool.and_eq_true, decide_eq_true_eq]

theorem State.pins_of_no_pulse (h : s.address.pulse = none) : s.lineSelect = none ∧ s.columnSelect = [] ∧
    s.writeStrobe = false ∧ s.eraseStrobe = false ∧ s.globalEraseStrobe = false := by
  simp only [State.lineSelect, State.columnSelect, State.writeStrobe, State.eraseStrobe, State.globalEraseStrobe, h,
    and_self]

section
variable {line delay width : Nat} {kind : OrderKind} {columns : List Nat} {on : Bool}

theorem State.selects_of_burst (h : s.address.pulse = some ⟨.burst line kind columns, delay, width, on⟩) :
    s.lineSelect = some line ∧ s.columnSelect = columns ∧ s.globalEraseStrobe = false := by
  simp only [State.lineSelect, State.columnSelect, State.globalEraseStrobe, h, and_self]

/-- R92: the strobe of a burst is that of its kind. -/
theorem State.strobes_of_burst (h : s.address.pulse = some ⟨.burst line kind columns, delay, width, on⟩) :
    s.writeStrobe = (on && decide (kind = .light)) ∧ s.eraseStrobe = (on && decide (kind = .quench)) := by
  cases kind <;> simp [State.writeStrobe, State.eraseStrobe, h]

theorem State.pins_of_globalErase (h : s.address.pulse = some ⟨.globalErase, delay, width, on⟩) :
    s.lineSelect = none ∧ s.columnSelect = [] ∧ s.writeStrobe = false ∧ s.eraseStrobe = false ∧
      s.globalEraseStrobe = on := by
  simp only [State.lineSelect, State.columnSelect, State.writeStrobe, State.eraseStrobe, State.globalEraseStrobe, h,
    and_self]

end

/-! ### Phases, pulses and the ramp (R82, R83, R92) -/

/-- R92: phase B waits for the pulse in hand (log 25). -/
theorem rowPhaseBStart_of_pulse {p : Pulse} (h : s.address.pulse = some p) : rowPhaseBStart s = none :=
  if_neg fun hc => nomatch hc.2.2.symm.trans h

theorem rowAddressPulseEnd_of_strobe {p : Pulse} (h : s.address.pulse = some p) (hs : p.strobe = true) :
    rowAddressPulseEnd s = some { s with address := { s.address with pulse := none } } := by
  simp only [rowAddressPulseEnd, h, hs, if_true]

theorem rowRampTick_of_timer (hr : s.address.running = true) (ht : s.address.tick ≠ none) :
    rowRampTick s = some { s with address := { s.address with
      currentA := stepToward s.address.currentA s.standing.phaseA
      currentB := stepToward s.address.currentB s.standing.phaseB } } :=
  if_pos ⟨hr, Option.isSome_iff_ne_none.2 ht⟩

theorem rowRampTick_of_no_timer (h : s.address.running = false ∨ s.address.tick = none) : rowRampTick s = none := by
  refine if_neg fun ⟨hr, ht⟩ => ?_
  obtain hstop | hnone := h
  · exact Bool.false_ne_true (hstop.symm.trans hr)
  · exact Option.isSome_iff_ne_none.1 ht hnone

/-- Settles O34: the pins by the pulse in hand, then the rows of the phases and the pulse, then the ramp. -/
theorem phasesPulsesAndRampTicks : Obligations.PhasesPulsesAndRampTicks := by
  refine ⟨fun s => ⟨State.susA_iff, State.susB_iff, State.pins_of_no_pulse,
      fun line kind columns delay width on h => ?_, fun delay width on => State.pins_of_globalErase⟩,
    fun s hs => ⟨fun hr ha hn => ?_, fun p hp hoff => ?_, fun p hp hon => ?_, fun p hp => ?_⟩,
    ⟨rfl, rfl, rfl, rfl, rfl, rfl⟩, fun s hs => ⟨fun hr ht => ?_, fun h => ?_⟩⟩
  · obtain ⟨hline, hcolumns, herase⟩ := State.selects_of_burst h
    obtain ⟨hwrite, hquench⟩ := State.strobes_of_burst h
    exact ⟨hline, hcolumns, herase, by simp [hwrite], by simp [hquench]⟩
  · exact occur_running_of_some hs.1 hs.2 (rowPhaseBStart_eq_some_iff.2 ⟨⟨hr, ha, hn⟩, rfl⟩)
  · exact occur_running_of_some hs.1 hs.2 (rowAddressPulseStart_eq_some_iff.2 ⟨p, ⟨hp, hoff⟩, rfl⟩)
  · exact occur_running_of_some hs.1 hs.2 (rowAddressPulseEnd_of_strobe hp hon)
  · exact occur_running_of_none hs.1 hs.2 (rowPhaseBStart_of_pulse hp)
  · exact occur_running_of_some hs.1 hs.2 (rowRampTick_of_timer hr ht)
  · exact occur_running_of_none hs.1 hs.2 (rowRampTick_of_no_timer h)

end Sys2Proof.Machine
end

section
/-! PROOFS. Every step keeps the debounce timers to live inputs at their active level (R106–R108). -/

namespace Sys2Proof.Machine

variable {s t : State} {q r : Sequencer} {p : ParamSet}

/-! ### Debounce timers, one by one -/

theorem startDebounce_isSome (p : ParamSet) (active : Bool) : (startDebounce p active).isSome = active := by
  cases active <;> rfl

theorem entry_of_ge {α : Type} {n : Nat} (v : Vector α n) {i : Nat} (hi : n ≤ i) (d : α) : entry v i d = d := by
  simp [entry, List.getD_eq_getElem?_getD, List.getElem?_eq_none (show v.toList.length ≤ i by simpa using hi)]

theorem entry_setIfInBounds {α : Type} {n : Nat} (v : Vector α n) {i : Nat} (hi : i < n) (x : α) (j : Nat) (d : α) :
    entry (v.setIfInBounds i x) j d = if j = i then x else entry v j d := by
  by_cases hj : j = i
  · simp [entry, List.getD_eq_getElem?_getD, hj, hi]
  · simp [entry, List.getD_eq_getElem?_getD, hj, Ne.symm hj]

/-- An axis has eight groups. -/
theorem Sequencer.groupTimer_of_ge (q : Sequencer) (axis : Axis) {g : Nat} (hg : 8 ≤ g) :
    q.groupTimer axis g = none := by
  cases axis <;> exact entry_of_ge _ hg none

theorem Sequencer.groupLive_iff {axis : Axis} {g : Nat} : q.groupLive p axis g = true ↔ q.panel.addressed = true ∧
    g < 8 ∧ (p.mask axis).getLsbD g = false ∧ (q.outSet axis).getLsbD g = false := by
  rw [Sequencer.groupLive, Bool.and_eq_true, Sequencer.groupWatched_iff]

theorem hvokActive_of_addressed {a : PanelState} (h : a.addressed = true) (level : Bool) :
    hvokActive a level = !level := by
  obtain rfl | rfl := PanelState.addressed_iff.1 h <;> rfl

/-! ### Debounced sequencers -/

/-- Under the standing set `p` a debounce timer runs only for an input that is live and at its active level. -/
structure Sequencer.Debounced (q : Sequencer) (p : ParamSet) : Prop where
  hvok : q.debounceHvok.isSome = true → hvokActive q.panel q.hvok = true
  hvoc : q.debounceHvoc.isSome = true → q.panel.powered = true ∧ q.hvoc = true
  group : ∀ axis g, (q.groupTimer axis g).isSome = true →
    q.groupLive p axis g = true ∧ (q.inputs axis).getLsbD g = true

theorem State.debounceOk_iff : s.DebounceOk ↔ (s.por = false → s.seq.Debounced s.standing) :=
  ⟨fun h hp => ⟨h.hvok hp, h.hvoc hp, h.group hp⟩, fun h => ⟨fun hp => (h hp).hvok, fun hp => (h hp).hvoc,
    fun hp => (h hp).group⟩⟩

/-- With the groups' timers stopped only HVOK and HVOC are asked after. -/
theorem Sequencer.Debounced.of_groups_stopped (hg : ∀ axis g, q.groupTimer axis g = none)
    (hk : q.debounceHvok.isSome = true → hvokActive q.panel q.hvok = true)
    (hc : q.debounceHvoc.isSome = true → q.panel.powered = true ∧ q.hvoc = true) : q.Debounced p where
  hvok := hk
  hvoc := hc
  group axis g hrun := by rw [hg] at hrun; cases hrun

/-- With every timer stopped nothing is asked of the inputs. -/
theorem Sequencer.Debounced.of_stopped (hk : q.debounceHvok = none) (hc : q.debounceHvoc = none)
    (hg : ∀ axis g, q.groupTimer axis g = none) : q.Debounced p :=
  .of_groups_stopped hg (fun hrun => by rw [hk] at hrun; cases hrun) (fun hrun => by rw [hc] at hrun; cases hrun)

/-- The input levels, the debounce timers and the groups out of service are the same. -/
structure Sequencer.SameInputs (q r : Sequencer) : Prop where
  levels : r.hvok = q.hvok ∧ r.hvoc = q.hvoc ∧ r.gfx = q.gfx ∧ r.gfy = q.gfy
  out : r.outX = q.outX ∧ r.outY = q.outY
  timers : r.debounceHvok = q.debounceHvok ∧ r.debounceHvoc = q.debounceHvoc ∧ r.debounceX = q.debounceX ∧
    r.debounceY = q.debounceY

/-- CLEARING and LIT have the same live inputs (R106). -/
theorem Sequencer.Debounced.of_sameInputs (h : q.Debounced p) (k : q.SameInputs r)
    (hpanel : r.panel = q.panel ∨ (q.panel.addressed = true ∧ r.panel.addressed = true)) : r.Debounced p := by
  obtain ⟨⟨hk, hc, hx, hy⟩, ⟨hox, hoy⟩, htk, htc, htx, hty⟩ := k
  have hlive : hvokActive r.panel = hvokActive q.panel ∧ r.panel.powered = q.panel.powered ∧
      r.panel.addressed = q.panel.addressed := by
    obtain e | ⟨hq, hr⟩ := hpanel
    · rw [e]; exact ⟨rfl, rfl, rfl⟩
    · refine ⟨funext fun level => ?_, ?_, hr.trans hq.symm⟩
      · rw [hvokActive_of_addressed hr, hvokActive_of_addressed hq]
      · rw [PanelState.powered_of_addressed hr, PanelState.powered_of_addressed hq]
  obtain ⟨hactive, hpowered, haddressed⟩ := hlive
  refine ⟨by rw [htk, hactive, hk]; exact h.hvok, by rw [htc, hpowered, hc]; exact h.hvoc, fun axis g e => ?_⟩
  have hout : r.outSet axis = q.outSet axis := by cases axis; exacts [hox, hoy]
  have hinputs : r.inputs axis = q.inputs axis := by cases axis; exacts [hx, hy]
  rw [Sequencer.groupTimer_of_eq htx hty] at e
  rw [Sequencer.groupLive_iff, haddressed, hout, hinputs, ← Sequencer.groupLive_iff]
  exact h.group axis g e

/-- Outside CLEARING and LIT no group is live. -/
theorem Sequencer.Debounced.no_group (h : q.Debounced p) (ha : q.panel.addressed = false) (axis : Axis) (g : Nat) :
    q.groupTimer axis g = none := by
  refine Option.not_isSome_iff_eq_none.1 fun e => ?_
  have hlive := Sequencer.groupLive_iff.1 (h.group axis g e).1
  exact Bool.false_ne_true (ha.symm.trans hlive.1)

/-! ### The fault inputs (R106) -/

/-- A group's input takes a level. -/
def Sequencer.setInput (q : Sequencer) (axis : Axis) (g : Nat) (level : Bool) : Sequencer :=
  match axis with
  | .x => { q with gfx := withBit q.gfx g level }
  | .y => { q with gfy := withBit q.gfy g level }

theorem Sequencer.setInput_inputs (q : Sequencer) (axis : Axis) {g : Nat} (hg : g < 8) (level : Bool) (axis' : Axis)
    (g' : Nat) : ((q.setInput axis g level).inputs axis').getLsbD g' =
      if axis' = axis ∧ g' = g then level else (q.inputs axis').getLsbD g' := by
  cases axis <;> cases axis' <;> simp [Sequencer.setInput, Sequencer.inputs, withBit_getLsbD hg]

theorem Sequencer.setInput_groupTimer (q : Sequencer) (axis : Axis) (g : Nat) (level : Bool) (axis' : Axis) (g' : Nat) :
    (q.setInput axis g level).groupTimer axis' g' = q.groupTimer axis' g' := by
  cases axis <;> exact Sequencer.groupTimer_of_eq rfl rfl axis' g'

theorem Sequencer.setGroupTimer_groupTimer (q : Sequencer) (axis : Axis) {g : Nat} (hg : g < 8) (timer : Timer)
    (axis' : Axis) (g' : Nat) : (q.setGroupTimer axis g timer).groupTimer axis' g' =
      if axis' = axis ∧ g' = g then timer else q.groupTimer axis' g' := by
  cases axis <;> cases axis' <;> simp [Sequencer.setGroupTimer, Sequencer.groupTimer, entry_setIfInBounds _ hg]

/-- A group's input and its timer move nothing else of the sequencer. -/
theorem Sequencer.setInput_keeps (q : Sequencer) (axis : Axis) (g : Nat) (level : Bool) (timer : Timer) :
    let r := (q.setGroupTimer axis g timer).setInput axis g level
    r.panel = q.panel ∧ r.hvok = q.hvok ∧ r.hvoc = q.hvoc ∧ r.debounceHvok = q.debounceHvok ∧
      r.debounceHvoc = q.debounceHvoc ∧ ∀ axis', r.outSet axis' = q.outSet axis' := by
  cases axis <;> exact ⟨rfl, rfl, rfl, rfl, rfl, fun axis' => by cases axis' <;> rfl⟩

theorem rowFaultInputChange_hvok {level : Bool} (h : s.seq.hvok ≠ level) :
    rowFaultInputChange .hvok level s = some { s with seq := { s.seq with
      hvok := level
      debounceHvok := startDebounce s.standing (!s.por && hvokActive s.seq.panel level) } } := if_neg h

theorem rowFaultInputChange_hvoc {level : Bool} (h : s.seq.hvoc ≠ level) :
    rowFaultInputChange .hvoc level s = some { s with seq := { s.seq with
      hvoc := level
      debounceHvoc := startDebounce s.standing (!s.por && s.seq.panel.powered && level) } } := if_neg h

theorem rowFaultInputChange_group {axis : Axis} {g : Nat} {level : Bool} (hg : g < 8)
    (h : (s.seq.inputs axis).getLsbD g ≠ level) : rowFaultInputChange (.group axis g) level s = some { s with
      seq := (s.seq.setGroupTimer axis g (startDebounce s.standing
        (!s.por && s.seq.groupLive s.standing axis g && level))).setInput axis g level } := by
  rw [rowFaultInputChange, if_neg (not_or.2 ⟨not_le.2 hg, h⟩)]
  cases axis <;> rfl

/-- A change of an input is one of the three above. -/
theorem rowFaultInputChange_eq_some {input : FaultInput} {level : Bool}
    (h : rowFaultInputChange input level s = some t) :
    (input = .hvok ∧ s.seq.hvok ≠ level) ∨ (input = .hvoc ∧ s.seq.hvoc ≠ level) ∨
      ∃ axis g, input = .group axis g ∧ g < 8 ∧ (s.seq.inputs axis).getLsbD g ≠ level := by
  cases input with
  | hvok =>
    simp only [rowFaultInputChange, Option.ite_none_left_eq_some] at h
    exact .inl ⟨rfl, h.1⟩
  | hvoc =>
    simp only [rowFaultInputChange, Option.ite_none_left_eq_some] at h
    exact .inr (.inl ⟨rfl, h.1⟩)
  | group axis g =>
    simp only [rowFaultInputChange, Option.ite_none_left_eq_some, not_or, not_le] at h
    exact .inr (.inr ⟨axis, g, rfl, h.1.1, h.1.2⟩)

/-- R106: a group's input takes a level, and its timer runs only when the group is live and the level active. -/
theorem Sequencer.Debounced.setInput (h : q.Debounced p) (axis : Axis) {g : Nat} (hg : g < 8) {level : Bool}
    {active : Bool} (ha : active = true → q.groupLive p axis g = true ∧ level = true) :
    ((q.setGroupTimer axis g (startDebounce p active)).setInput axis g level).Debounced p := by
  obtain ⟨hpanel, hk, hc, htk, htc, hout⟩ := q.setInput_keeps axis g level (startDebounce p active)
  refine ⟨by rw [htk, hpanel, hk]; exact h.hvok, by rw [htc, hpanel, hc]; exact h.hvoc, fun axis' g' e => ?_⟩
  rw [Sequencer.setInput_groupTimer, Sequencer.setGroupTimer_groupTimer _ _ hg] at e
  rw [Sequencer.groupLive_iff, hpanel, hout, ← Sequencer.groupLive_iff, Sequencer.setInput_inputs _ _ hg]
  by_cases hsame : axis' = axis ∧ g' = g
  · rw [if_pos hsame, startDebounce_isSome] at e
    obtain ⟨rfl, rfl⟩ := hsame
    rw [if_pos ⟨rfl, rfl⟩]
    exact ha e
  · rw [if_neg hsame] at e ⊢
    have hsameInputs : (q.setGroupTimer axis g (startDebounce p active)).inputs axis' = q.inputs axis' := by
      cases axis <;> cases axis' <;> rfl
    rw [hsameInputs]
    exact h.group axis' g' e

theorem rowFaultInputChange_debounceOk {input : FaultInput} {level : Bool}
    (h : rowFaultInputChange input level s = some t) (hs : s.DebounceOk) : t.DebounceOk := by
  rw [State.debounceOk_iff] at hs ⊢
  obtain ⟨rfl, hl⟩ | ⟨rfl, hl⟩ | ⟨axis, g, rfl, hg, hl⟩ := rowFaultInputChange_eq_some h
  · rw [rowFaultInputChange_hvok hl] at h
    cases h
    intro hp
    refine ⟨fun e => ?_, (hs hp).hvoc, (hs hp).group⟩
    rw [startDebounce_isSome, Bool.and_eq_true] at e
    exact e.2
  · rw [rowFaultInputChange_hvoc hl] at h
    cases h
    intro hp
    refine ⟨(hs hp).hvok, fun e => ?_, (hs hp).group⟩
    rw [startDebounce_isSome, Bool.and_eq_true, Bool.and_eq_true] at e
    exact ⟨e.1.2, e.2⟩
  · rw [rowFaultInputChange_group hg hl] at h
    cases h
    intro hp
    refine (hs hp).setInput axis hg fun e => ?_
    rw [Bool.and_eq_true, Bool.and_eq_true] at e
    exact ⟨e.1.2, e.2⟩

/-! ### The entries to the panel states (R95, R97, R98, R100–R103, R105) -/

/-- The sequencer's timers are in order under the standing set. -/
def State.Debounced (s : State) : Prop := s.seq.Debounced s.standing

theorem State.Debounced.of_sameInputs (h : s.Debounced) (hst : t.standing = s.standing) (k : s.seq.SameInputs t.seq)
    (hpanel : t.seq.panel = s.seq.panel ∨ (s.seq.panel.addressed = true ∧ t.seq.panel.addressed = true)) :
    t.Debounced := by
  unfold State.Debounced
  rw [hst]
  exact Sequencer.Debounced.of_sameInputs h k hpanel

theorem State.Debounced.of_stands (h : s.Debounced) (hq : t.seq = s.seq) (hst : t.standing = s.standing) :
    t.Debounced := by
  unfold State.Debounced
  rw [hq, hst]
  exact h

/-- R97: CHARGING is entered from DARK or RESTING, where no group is live. -/
theorem State.Debounced.enterCharging (h : s.Debounced) (ha : s.seq.panel.addressed = false) :
    s.enterCharging.Debounced :=
  .of_groups_stopped (fun axis g => (Sequencer.groupTimer_of_eq rfl rfl axis g).trans (h.no_group ha axis g))
    (fun hrun => (startDebounce_isSome _ _).symm.trans hrun)
    (fun hrun => ⟨rfl, (startDebounce_isSome _ _).symm.trans hrun⟩)

/-- R98, R106: HVOK is now watched for loss, HVOC goes on, and the groups become live. -/
theorem State.Debounced.enterClearing (h : s.Debounced) : s.enterClearing.Debounced where
  hvok hrun := (startDebounce_isSome _ _).symm.trans hrun
  hvoc hrun := ⟨rfl, (h.hvoc hrun).2⟩
  group axis g hrun := by
    rcases Nat.lt_or_ge g 8 with hg | hg
    · rw [s.enterClearing_groupTimer axis hg] at hrun
      split at hrun
      · rename_i hlive
        obtain ⟨hmask, hout, hinput⟩ := hlive
        refine ⟨Sequencer.groupLive_iff.2 ⟨rfl, hg, hmask, ?_⟩, ?_⟩ <;> cases axis <;> assumption
      · cases hrun
    · rw [Sequencer.groupTimer_of_ge _ axis hg] at hrun
      cases hrun

theorem State.Debounced.softRestart (h : s.Debounced) (ha : s.seq.panel.addressed = true) : s.softRestart.Debounced :=
  h.of_sameInputs rfl ⟨⟨rfl, rfl, rfl, rfl⟩, ⟨rfl, rfl⟩, rfl, rfl, rfl, rfl⟩ (.inr ⟨ha, rfl⟩)

/-- R99, R100: LIT is entered from CLEARING. -/
theorem State.Debounced.noteErases (h : s.Debounced) : s.noteErases.Debounced := by
  refine h.of_sameInputs (by simp) (by constructor <;> simp) ?_
  obtain ⟨-, e⟩ | ⟨-, -, e⟩ | ⟨hc, -, e⟩ := s.noteErases_cases <;> rw [e]
  · exact .inl rfl
  · exact .inl rfl
  · exact .inr ⟨by rw [hc]; rfl, rfl⟩

theorem State.Debounced.noteWipe (h : s.Debounced) : s.noteWipe.Debounced := by
  refine h.of_sameInputs (by simp) (by constructor <;> simp) ?_
  obtain ⟨-, e⟩ | ⟨-, -, e⟩ | ⟨hc, -, e⟩ := s.noteWipe_cases <;> rw [e]
  · exact .inl rfl
  · exact .inl rfl
  · exact .inr ⟨by rw [hc]; rfl, rfl⟩

theorem State.recover_debounced (s : State) : s.recover.Debounced := by
  have hstop (axis : Axis) (g : Nat) := s.seq.stopDebounce_groupTimer axis g
  obtain ⟨-, e⟩ | ⟨-, e⟩ := s.recover_cases <;> rw [e] <;>
    exact .of_stopped rfl rfl fun axis g => (Sequencer.groupTimer_of_eq rfl rfl axis g).trans (hstop axis g)

theorem State.enterDark_debounced (s : State) : s.enterDark.Debounced := by
  obtain ⟨hk, hc, hg⟩ := s.enterDark_enters.off.debounce
  exact .of_stopped hk hc hg

/-- R103, R106: no input is live in RESTING, so that none is at the entry to BARRED from there. -/
theorem State.Debounced.barNoGroups (h : s.Debounced) (hr : s.seq.panel = .resting) : s.barNoGroups.Debounced := by
  refine .of_groups_stopped (fun axis g => (Sequencer.groupTimer_of_eq rfl rfl axis g).trans
    (h.no_group (by rw [hr]; rfl) axis g)) (fun hrun => ?_) (fun hrun => ?_)
  · have hactive := h.hvok hrun
    rw [hr] at hactive
    cases hactive
  · have hpowered := (h.hvoc hrun).1
    rw [hr] at hpowered
    cases hpowered

/-- R108: a group that becomes masked stops its timer, one that becomes unmasked starts it when it is live and
asserted, and any other has its mask as before. -/
theorem Sequencer.Debounced.remask {old new : ParamSet} (h : q.Debounced old) : (q.remask old new).Debounced new where
  hvok := h.hvok
  hvoc := h.hvoc
  group axis g hrun := by
    have hlive : (q.remask old new).groupLive new axis g = q.groupLive new axis g := by cases axis <;> rfl
    have hinputs : (q.remask old new).inputs axis = q.inputs axis := by cases axis <;> rfl
    rw [hlive, hinputs]
    rcases Nat.lt_or_ge g 8 with hg | hg
    · rw [Sequencer.remask_groupTimer _ _ _ _ hg, Sequencer.remaskTimer] at hrun
      split at hrun
      · cases hrun
      · rename_i hmask
        split at hrun
        · rwa [startDebounce_isSome, Bool.and_eq_true] at hrun
        · obtain ⟨hold, hinput⟩ := h.group axis g hrun
          obtain ⟨ha, -, -, hout⟩ := Sequencer.groupLive_iff.1 hold
          exact ⟨Sequencer.groupLive_iff.2 ⟨ha, hg, by simpa using hmask, hout⟩, hinput⟩
    · rw [Sequencer.groupTimer_of_ge _ axis hg] at hrun
      cases hrun

/-! ### The rows -/

theorem State.Faults.debounced (h : s.Faults t) : t.Debounced := by
  obtain ⟨-, q, k, -, rfl⟩ := h
  exact State.recover_debounced _

/-- A command that keeps the debounce timers in order, with its take and its record. -/
theorem commandRow_debounced {isMine : Byte → Bool} {act : State → State × CommandOutcome}
    (hact : ∀ {u : State}, u.Debounced → (act u).1.Debounced) (h : commandRow isMine act s = some t)
    (hs : s.Debounced) : t.Debounced :=
  commandRow_keeps (P := State.Debounced) (fun k o rest => k.of_stands (by simp) (by simp))
    (fun k code o => k.of_stands (by simp) (by simp)) hact h hs

theorem State.Debounced.doRestart (h : s.Debounced) : s.doRestart.1.Debounced := by
  obtain e | ⟨hd, e⟩ | ⟨hc, e⟩ := s.doRestart_cases <;> rw [e]
  · exact h
  · exact h.enterCharging (by rw [hd]; rfl)
  · exact h.softRestart (PanelState.addressed_iff.2 hc)

/-- R110: the groups are restored to service in DARK, where no group is live. -/
theorem State.Debounced.doClearFaults (h : s.Debounced) : s.doClearFaults.1.Debounced := by
  obtain ⟨f, ⟨hd, e⟩ | e⟩ := s.doClearFaults_cases <;> rw [e]
  · exact .of_groups_stopped (fun axis g => (Sequencer.groupTimer_of_eq rfl rfl axis g).trans
      (h.no_group (by rw [hd]; rfl) axis g)) h.hvok h.hvoc
  · exact h.of_sameInputs rfl ⟨⟨rfl, rfl, rfl, rfl⟩, ⟨rfl, rfl⟩, rfl, rfl, rfl, rfl⟩ (.inl rfl)

theorem State.Debounced.commitApply (h : s.Debounced) (hr : rowCommitApply s = some t) : t.Debounced := by
  obtain ⟨new, -, -, hcase⟩ := rowCommitApply_cases hr
  have happlied : (s.commitApplied new).Debounced := Sequencer.Debounced.remask h
  obtain ⟨-, ha, rfl⟩ | ⟨-, rfl⟩ := hcase
  · exact happlied.softRestart ha
  · exact happlied

theorem State.Debounced.slot (h : s.Debounced) : s.openCycle.slot.Debounced := by
  have hopen : s.openCycle.Debounced := h
  obtain e | ⟨-, -, e⟩ | ⟨head, rest, -, -, e⟩ := s.openCycle.slot_cases <;> rw [e]
  · exact hopen
  · have herasing : s.openCycle.erasing.Debounced := h
    obtain ⟨-, e⟩ | ⟨-, e⟩ := s.openCycle.globalErase_cases <;> rw [e]
    · exact herasing
    · exact herasing.noteErases
  · exact hopen.of_stands (by simp) (by simp)

theorem PictureRow.debounced {row : State → Option State} (hr : PictureRow row) (hs : s.Debounced)
    (h : row s = some t) : t.Debounced := by
  cases hr
  case commit =>
    refine commandRow_debounced (fun {u} k => ?_) h hs
    obtain e | e | ⟨-, e⟩ := u.doCommit_cases <;> rw [e] <;> exact k
  case restartPanel => exact commandRow_debounced (fun k => k.doRestart) h hs
  case stopPanel =>
    refine commandRow_debounced (fun {u} k => ?_) h hs
    obtain e | e := u.doStop_cases <;> rw [e]
    · exact k
    · exact u.enterDark_debounced
  case clearFaults => exact commandRow_debounced (fun k => k.doClearFaults) h hs
  case commitApply => exact hs.commitApply h
  case captureItem =>
    obtain ⟨r, rest, -, -, -, rfl⟩ := rowCaptureItem_cases h
    exact hs.of_stands (by simp [State.captureTaken]) (by simp [State.captureTaken])
  case resweepItem =>
    obtain ⟨c, -, -, -, rfl⟩ := rowResweepItem_cases h
    exact hs.of_stands (by simp [State.resweepTaken]) (by simp [State.resweepTaken])
  case wipeItem =>
    obtain ⟨-, -, -, rfl⟩ := rowWipeItem_cases h
    exact hs
  case freeEntryWaitEnd =>
    obtain ⟨-, ⟨r, c, rest, -, rfl⟩ | ⟨c, got, toRead, -, rfl⟩⟩ := rowFreeEntryWaitEnd_cases h <;>
      exact hs.of_stands (by simp) (by simp)
  case pictureReadDone =>
    obtain ⟨a, ⟨-, rfl⟩ | ⟨-, c, got, b, more, -, rfl⟩⟩ := rowPictureReadDone_cases h <;>
      exact hs.of_stands (by simp) (by simp)
  case cellWordReadDone =>
    obtain ⟨a, ⟨-, rfl⟩ | ⟨-, i, c, -, -, -, rfl⟩⟩ := rowCellWordReadDone_cases h <;>
      exact hs.of_stands (by simp) (by simp)
  case writeBackDone =>
    obtain ⟨a, w, ⟨-, rfl⟩ | ⟨-, i, -, rfl⟩⟩ := rowWriteBackDone_cases h <;>
      exact hs.of_stands (by simp [State.writeWord]) (by simp [State.writeWord])
  case wipeWriteDone =>
    obtain ⟨a, ⟨-, rfl⟩ | ⟨-, ⟨-, rfl⟩ | ⟨-, rfl⟩⟩⟩ := rowWipeWriteDone_cases h
    · exact hs
    · exact hs
    · have hw : (s.wipeWritten a).Debounced := hs
      exact hw.noteWipe
  case sustainCycleStart =>
    obtain ⟨-, rfl⟩ := rowSustainCycleStart_cases h
    exact hs.slot
  case hvokSeen =>
    obtain ⟨-, rfl⟩ := rowHvokSeen_cases h
    exact hs.enterClearing
  case hvokLost => exact (rowHvokLost_cases h).debounced
  case hvocSeen => exact (rowHvocSeen_cases h).debounced
  case groupStrike => exact (rowGroupStrike_cases h).debounced
  case chargeTimeout => exact (rowChargeTimeout_cases h).debounced
  case restEnd =>
    obtain ⟨hc, ⟨-, rfl⟩ | ⟨-, rfl⟩⟩ := rowRestEnd_cases h
    · exact hs.barNoGroups hc
    · exact hs.enterCharging (by rw [hc]; rfl)
  case litDurationExpiry =>
    obtain ⟨-, rfl⟩ := rowLitDurationExpiry_cases h
    exact hs.of_sameInputs rfl ⟨⟨rfl, rfl, rfl, rfl⟩, ⟨rfl, rfl⟩, rfl, rfl, rfl, rfl⟩ (.inl rfl)
  case grantDecision =>
    obtain ⟨-, q, rfl, -⟩ := rowGrantDecision_cases h
    exact hs

theorem State.DebounceOk.of_stands (h : s.DebounceOk) (hp : t.por = s.por) (hq : t.seq = s.seq)
    (hst : t.standing = s.standing) : t.DebounceOk := by
  rw [State.debounceOk_iff] at h ⊢
  rw [hp, hq, hst]
  exact h

theorem State.KeepsPicture.debounceOk (k : s.KeepsPicture t) (h : s.DebounceOk) : t.DebounceOk :=
  h.of_stands k.por k.seq k.standing

theorem PinRow.debounceOk {row : State → Option State} (hr : PinRow row) (hs : s.DebounceOk) (h : row s = some t) :
    t.DebounceOk := by
  cases hr
  case porAssert =>
    obtain ⟨-, rfl⟩ := rowPorAssert_cases h
    exact State.debounceOk_iff.2 fun e => nomatch e
  case porEnd =>
    obtain ⟨-, rfl⟩ := rowPorEnd_cases h
    exact State.debounceOk_iff.2 fun _ => .of_stopped rfl rfl fun axis g =>
      (Sequencer.groupTimer_of_eq rfl rfl axis g).trans (Sequencer.por_groupTimer axis g)
  case sysclr =>
    obtain ⟨-, rfl⟩ | ⟨-, rfl⟩ := rowSysclr_cases h
    · exact hs.of_stands rfl rfl rfl
    · exact State.debounceOk_iff.2 fun _ => s.abortCopy.enterDark_debounced
  case sysclrNegate => exact (rowSysclrNegate_keepsPicture h).debounceOk hs
  case busRead => exact (rowBusRead_keepsPicture h).debounceOk hs
  case busWrite => exact (rowBusWrite_keepsPicture h).debounceOk hs
  case faultInputChange => exact rowFaultInputChange_debounceOk h hs

/-- R106, R108: every row keeps the debounce timers to live inputs at their active level. -/
theorem debounceOk_kept : KeptByRows State.DebounceOk where
  pin hr hs h := hr.debounceOk hs h
  inner hr hp hs h := by
    obtain hrow | hstands := hr.picture h
    · exact State.debounceOk_iff.2 fun _ => hrow.debounced (State.debounceOk_iff.1 hs hp) h
    · exact hstands.debounceOk hs
  after hs := hs.of_stands (by simp) (by simp) (by simp)
  pending hs := hs.of_stands rfl rfl rfl

/-- Settles O56: the counts, sets and timers are kept by every row, and the debounce timers without them. -/
theorem everyStepKeepsTheSequencer : Obligations.EveryStepKeepsTheSequencer :=
  fun _ _ h => ⟨step_keeps sequencerOk_kept h, fun _ hs _ => step_keeps debounceOk_kept h hs⟩

end Sys2Proof.Machine
end

section
/-! PROOFS. The sequencer's events (spec/07): a fault input that changes, an event that comes too late, the
recoveries with the strikes of the groups, and the ends of the rest and of the LIT duration. -/

namespace Sys2Proof.Machine

variable {s t : State} {q : Sequencer} {p : ParamSet}

/-! ### Fault inputs (R106, R107) -/

theorem startDebounce_eq_ite {active : Bool} {P : Prop} [Decidable P] (h : active = true ↔ P) :
    startDebounce p active = if P then some (debounceMicros p.debounce) else none := by
  simp only [startDebounce, h]

theorem hvokActive_iff {a : PanelState} {level : Bool} : hvokActive a level = true ↔
    (a = .charging ∧ level = true) ∨ ((a = .clearing ∨ a = .lit) ∧ level = false) := by
  cases a <;> simp [hvokActive]

theorem PanelState.powered_iff {a : PanelState} :
    a.powered = true ↔ a = .charging ∨ a = .clearing ∨ a = .lit := by
  cases a <;> simp [PanelState.powered]

/-- R106, R108: a group's input is live and at its active level. -/
theorem Sequencer.groupLive_and_iff {axis : Axis} {g : Nat} (hg : g < 8) {level : Bool} :
    (q.groupLive p axis g && level) = true ↔ (q.panel = .clearing ∨ q.panel = .lit) ∧
      (p.mask axis).getLsbD g = false ∧ (q.outSet axis).getLsbD g = false ∧ level = true := by
  rw [Bool.and_eq_true, Sequencer.groupLive_iff, PanelState.addressed_iff]
  simp only [hg, true_and, and_assoc]

/-- Settles O36: the row of each input, with the timer that its level starts or stops. -/
theorem aFaultInputStartsOrStopsItsDebounce : Obligations.AFaultInputStartsOrStopsItsDebounce := by
  refine ⟨⟨rfl, rfl, rfl, rfl⟩, fun s hp => ?_, fun b g k level hg => withBit_getLsbD hg level, fun s hs => ?_⟩
  · have hstopped (active : Bool) : startDebounce s.standing (!s.por && active) = none := by rw [hp]; rfl
    have comes {input : FaultInput} {level : Bool} {t : State} (h : rowFaultInputChange input level s = some t)
        (ht : t.por = true) : exec (.faultInputChange input level) s = .next t := by
      rw [exec_of_row (c := .faultInputChange input level) (dueAny_of_por hp) h, State.afterEvent_of_por ht]
    have group (axis : Axis) {g : Nat} {level : Bool} (hg : g < 8) (hl : (s.seq.inputs axis).getLsbD g ≠ level) :
        exec (.faultInputChange (.group axis g) level) s =
          .next { s with seq := (s.seq.setGroupTimer axis g none).setInput axis g level } :=
      comes ((rowFaultInputChange_group hg hl).trans (by rw [Bool.and_assoc, hstopped])) hp
    exact ⟨fun _ hl => comes ((rowFaultInputChange_hvok hl).trans (by rw [hstopped])) hp,
      fun _ hl => comes ((rowFaultInputChange_hvoc hl).trans (by rw [Bool.and_assoc, hstopped])) hp,
      fun _ _ hg hl => group .x hg hl, fun _ _ hg hl => group .y hg hl⟩
  · intro timer
    obtain ⟨hp, hd⟩ := hs
    have hnegated (active : Bool) : (!s.por && active) = active := by rw [hp]; rfl
    have comes {input : FaultInput} {level : Bool} {t : State} (h : rowFaultInputChange input level s = some t) :
        exec (.faultInputChange input level) s = .next t.afterEvent :=
      exec_of_row (c := .faultInputChange input level) hd h
    have group (axis : Axis) {g : Nat} {level : Bool} (hg : g < 8) (hl : (s.seq.inputs axis).getLsbD g ≠ level) :
        exec (.faultInputChange (.group axis g) level) s = .next (State.afterEvent { s with
          seq := (s.seq.setGroupTimer axis g (timer ((s.seq.panel = .clearing ∨ s.seq.panel = .lit) ∧
            (s.standing.mask axis).getLsbD g = false ∧ (s.seq.outSet axis).getLsbD g = false ∧
              level = true))).setInput axis g level }) :=
      comes ((rowFaultInputChange_group hg hl).trans
        (by rw [hnegated, startDebounce_eq_ite (Sequencer.groupLive_and_iff hg)]))
    refine ⟨fun level hl => comes ((rowFaultInputChange_hvok hl).trans ?_),
      fun level hl => comes ((rowFaultInputChange_hvoc hl).trans ?_), fun _ _ hg hl => group .x hg hl,
      fun _ _ hg hl => group .y hg hl⟩
    · rw [hnegated, startDebounce_eq_ite hvokActive_iff]
    · rw [hnegated, startDebounce_eq_ite (Bool.and_eq_true_iff.trans (and_congr_left' PanelState.powered_iff))]

/-! ### Events that come too late (R97, R99, R100, R106) -/

/-- Settles O3: outside the panel states that allow it each row is none. -/
theorem anEventTakenTooLateHasNoEffect : Obligations.AnEventTakenTooLateHasNoEffect := by
  intro s hs
  have late {row : State → Option State} (h : row s = none) : occur dueInstant (running row) s = .next s :=
    occur_running_of_none hs.1 hs.2 h
  refine ⟨fun hc => ⟨late ?_, late ?_⟩, fun hc hl => ⟨late ?_, fun axis g => late ?_⟩, fun hh hc hl => late ?_,
    fun hr => late ?_, fun hl => late ?_⟩
  · exact if_neg fun h => hc h.1
  · exact if_neg fun h => hc h.1
  · exact if_neg fun h => (PanelState.addressed_iff.1 h.1).elim hc hl
  · exact if_neg fun h => (PanelState.addressed_iff.1 (Sequencer.groupLive_iff.1 h.1).1).elim hc hl
  · exact if_neg fun h => (PanelState.powered_iff.1 h.1).elim hh fun h => h.elim hc hl
  · exact if_neg fun h => hr h.1
  · exact if_neg fun h => hl h.1

/-! ### What a recovery does to each block (R102) -/

theorem State.recover_made (s : State) : s.ReportMade s.recover := by
  obtain ⟨-, e⟩ | ⟨-, e⟩ := s.recover_cases <;> rw [e]
  · have m := (State.enterFault_made { s.powerDown with seq := { s.powerDown.seq with
      panel := .barred, recoveryCount := s.seq.recoveryCount + 1 } } .recoveryLimit).again (State.reportDue_made _)
    exact ⟨m.due, m.asked, m.covered⟩
  · have m := State.reportDue_made s
    exact ⟨m.due, m.asked, m.covered⟩

theorem State.recover_off (s : State) : s.SwitchedOff s.recover := by
  have hstop (axis : Axis) (g : Nat) := s.seq.stopDebounce_groupTimer axis g
  obtain ⟨-, e⟩ | ⟨-, e⟩ := s.recover_cases <;> rw [e] <;>
    exact ⟨rfl, rfl, ⟨rfl, rfl⟩, rfl, rfl, fun axis g =>
      (Sequencer.groupTimer_of_eq rfl rfl axis g).trans (hstop axis g)⟩

/-- A recovery drops the holds of the stale set and keeps its flags. -/
theorem State.recover_staleFlag (s : State) (l : Fin 512) :
    s.recover.stale.lines[l].stale = s.stale.lines[l].stale := by
  have hstale : s.recover.stale = s.stale.dropHolds := by
    obtain ⟨-, e⟩ | ⟨-, e⟩ := s.recover_cases <;> rw [e] <;> rfl
  rw [hstale, StaleSet.dropHolds_lines]

/-- What no entry to a panel state changes, a recovery does not change. -/
theorem State.recover_entryKeeps (s : State) : s.EntryKeeps s.recover where
  memory := by simp
  pins := by simp
  standing := by simp
  inputs := by simp
  refresh := by simp
  decision := by simp
  grant h _ := s.recover_current.trans (s.port.dropRender_other h)
  count := by simp

/-- R109: FAULT is pending already when a recovery adds RECOVERY LIMIT. -/
theorem State.recover_causes (h : s.report.causes ||| Cause.fault.bit = s.report.causes) :
    s.recover.report.causes = s.report.causes := by
  obtain ⟨-, e⟩ | ⟨-, e⟩ := s.recover_cases <;> rw [e]
  · exact h
  · rfl

theorem State.recover_count (s : State) : s.recover.seq.recoveryCount = s.seq.recoveryCount + 1 := by
  obtain ⟨-, e⟩ | ⟨-, e⟩ := s.recover_cases <;> rw [e] <;> rfl

/-- R102: a count below 5 rests. -/
theorem State.recover_rests (s : State) (h : s.seq.recoveryCount + 1 < 5) : s.recover.seq.panel = .resting ∧
    s.recover.seq.restTimer = some 120000 ∧ s.recover.seq.faults = s.seq.faults := by
  obtain ⟨hc, -⟩ | ⟨-, e⟩ := s.recover_cases
  · omega
  · rw [e]; exact ⟨rfl, rfl, rfl⟩

/-- R102: a count of 5 is barred. -/
theorem State.recover_bars (s : State) (h : s.seq.recoveryCount + 1 = 5) : s.recover.seq.panel = .barred ∧
    s.recover.seq.restTimer = s.seq.restTimer ∧
    s.recover.seq.faults = s.seq.faults ||| FaultKind.recoveryLimit.bit := by
  obtain ⟨-, e⟩ | ⟨hc, -⟩ := s.recover_cases
  · rw [e]; exact ⟨rfl, rfl, rfl⟩
  · omega

/-! ### A fault and its recovery (R102, R109) -/

/-- The state that a fault of kind `k` makes, with the sequencer as the fault's own effect leaves it. -/
def State.faulted (s : State) (q : Sequencer) (k : FaultKind) : State :=
  (({ s with seq := q } : State).enterFault k).recover

/-- Two sequencers differ in the group sets alone. -/
def Sequencer.AlikeButGroups (q r : Sequencer) : Prop :=
  r = { q with strikeX := r.strikeX, strikeY := r.strikeY, outX := r.outX, outY := r.outY }

/-- R102, R109: a fault puts its kind in the fault set and FAULT in the causes, and the part recovers. -/
theorem State.enterFault_recovers (s : State) (k : FaultKind) : s.Recovers k (s.enterFault k).recover :=
  let e := (s.enterFault k).recover_emptied
  let g := (s.enterFault k).recover_letsGo
  let m := (s.enterFault_made k).again (s.enterFault k).recover_made
  let o := (s.enterFault k).recover_off
  let n := (s.enterFault k).recover_entryKeeps
  { count := (s.enterFault k).recover_count
    rests := (s.enterFault k).recover_rests
    bars := (s.enterFault k).recover_bars
    causes := State.recover_causes (by change _ ||| _ ||| _ = _ ||| _; rw [BitVec.or_assoc, BitVec.or_self])
    atn := by
      have hatn : (s.enterFault k).recover.AtnDecided := State.recover_atn rfl
      simpa [State.AtnDecided] using hatn
    due := ⟨m.due, m.asked, m.covered⟩
    off := ⟨o.hven, o.sustain, o.timers, o.debounce⟩
    emptied := ⟨e.queue, e.list, e.holds, e.item, e.held, e.placed, e.other, e.withdrawn, e.granted⟩
    copy := ⟨g.waiting, g.placed, g.other⟩
    copyGrant := fun _ _ h => (State.recover_current _).trans (s.port.dropRender_copy h)
    stale := ⟨by simp, by simp, (s.enterFault k).recover_staleFlag⟩
    flags := by simp
    wipe := by simp
    control := by simp
    sysclr := by simp
    quiet := by simp
    keeps := ⟨n.memory, n.pins, n.standing, n.inputs, n.refresh, n.decision, n.grant, n.count⟩ }

/-- The group sets before the recovery are no part of what it is compared with. -/
theorem State.faulted_recovers (hq : s.seq.AlikeButGroups q) (k : FaultKind) : s.Recovers k (s.faulted q k) := by
  have h := State.enterFault_recovers { s with seq := q } k
  rw [hq] at h ⊢
  exact
    { count := h.count, rests := h.rests, bars := h.bars, causes := h.causes, atn := h.atn
      due := ⟨h.due.due, h.due.asked, h.due.covered⟩
      off := ⟨h.off.hven, h.off.sustain, h.off.timers, h.off.debounce⟩
      emptied := ⟨h.emptied.queue, h.emptied.list, h.emptied.holds, h.emptied.item, h.emptied.held, h.emptied.placed,
        h.emptied.other, h.emptied.withdrawn, h.emptied.granted⟩
      copy := ⟨h.copy.waiting, h.copy.placed, h.copy.other⟩
      copyGrant := h.copyGrant
      stale := h.stale, flags := h.flags, wipe := h.wipe, control := h.control, sysclr := h.sysclr, quiet := h.quiet
      keeps := ⟨h.keeps.memory, h.keeps.pins, h.keeps.standing, h.keeps.inputs, h.keeps.refresh, h.keeps.decision,
        h.keeps.grant, h.keeps.count⟩ }

/-- The group sets of a fault are those that its own effect leaves. -/
theorem State.faulted_groups (s : State) (q : Sequencer) (k : FaultKind) (axis : Axis) :
    (s.faulted q k).seq.strikeSet axis = q.strikeSet axis ∧ (s.faulted q k).seq.outSet axis = q.outSet axis := by
  cases axis <;> simp [State.faulted, Sequencer.strikeSet, Sequencer.outSet]

/-- A recovery ends outside LIT, so that nothing follows it. -/
theorem occur_faulted {row : State → Option State} {k : FaultKind} (hs : s.ReadyInstant)
    (h : row s = some (s.faulted q k)) : occur dueInstant (running row) s = .next (s.faulted q k) := by
  have hlit : (s.faulted q k).seq.panel ≠ .lit := by
    obtain e | e := State.recover_panel (({ s with seq := q } : State).enterFault k) <;>
      rw [State.faulted, e] <;> decide
  rw [occur_running_of_some hs.1 hs.2 h, State.afterEvent_of_not_lit hlit]

/-- A fault that is no group's moves no group. -/
theorem fault_comes {row : State → Option State} {k : FaultKind} (hs : s.ReadyInstant)
    (h : row s = some (s.faulted s.seq k)) : ∃ t, occur dueInstant (running row) s = .next t ∧ s.Recovers k t ∧
      t.seq.strikeX = s.seq.strikeX ∧ t.seq.strikeY = s.seq.strikeY ∧ t.seq.outX = s.seq.outX ∧
      t.seq.outY = s.seq.outY := by
  obtain ⟨hsx, hox⟩ := s.faulted_groups s.seq k .x
  obtain ⟨hsy, hoy⟩ := s.faulted_groups s.seq k .y
  exact ⟨_, occur_faulted hs h, State.faulted_recovers (q := s.seq) rfl k, hsx, hsy, hox, hoy⟩

/-! ### Strikes (R108) -/

theorem Sequencer.strike_alike (q : Sequencer) (axis : Axis) (g : Nat) : q.AlikeButGroups (q.strike axis g) := by
  cases axis <;> rfl

/-- A strike moves its group into the one-strike set, or out of it again. -/
theorem Sequencer.strike_strikeSet (q : Sequencer) (axis : Axis) {g : Nat} (hg : g < 8) (axis' : Axis) (g' : Nat) :
    ((q.strike axis g).strikeSet axis').getLsbD g' =
      if (axis', g') = (axis, g) then !(q.strikeSet axis).getLsbD g else (q.strikeSet axis').getLsbD g' := by
  cases axis <;> cases axis' <;> simp [Sequencer.strike, Sequencer.strikeSet, withBit_getLsbD hg]

/-- The second strike takes the group out of service. -/
theorem Sequencer.strike_outSet (q : Sequencer) (axis : Axis) (g : Nat) (axis' : Axis) :
    (q.strike axis g).outSet axis' = if axis' = axis ∧ (q.strikeSet axis).getLsbD g = true then
      withBit (q.outSet axis') g true else q.outSet axis' := by
  cases axis <;> cases axis' <;> simp [Sequencer.strike, Sequencer.strikeSet, Sequencer.outSet] <;> rfl

/-- A strike takes no other group out of service. -/
theorem Sequencer.strike_outSet_other (q : Sequencer) {axis : Axis} {g : Nat} (hg : g < 8) {axis' : Axis} {g' : Nat}
    (hother : (axis', g') ≠ (axis, g)) :
    ((q.strike axis g).outSet axis').getLsbD g' = (q.outSet axis').getLsbD g' := by
  rw [Sequencer.strike_outSet]
  split
  · rename_i hsame
    have hne : g' ≠ g := fun e => hother (by rw [hsame.1, e])
    rw [withBit_getLsbD hg, if_neg hne]
  · rfl

theorem rowGroupStrike_of_live {axis : Axis} {g : Nat} (hg : g < 8) (hc : s.seq.panel = .clearing ∨ s.seq.panel = .lit)
    (hm : (s.standing.mask axis).getLsbD g = false) (ho : (s.seq.outSet axis).getLsbD g = false)
    (ht : s.seq.groupTimer axis g ≠ none) :
    rowGroupStrike axis g s = some (s.faulted (s.seq.strike axis g) .groupFault) :=
  if_pos ⟨Sequencer.groupLive_iff.2 ⟨PanelState.addressed_iff.2 hc, hg, hm, ho⟩, Option.isSome_iff_ne_none.2 ht⟩

/-- Settles O38: each event is a fault and its recovery; the strike of a group is the fault's own effect. -/
theorem aFaultBeginsARecovery : Obligations.AFaultBeginsARecovery := by
  refine ⟨fun s hs => ?_, fun axis g s hs hg hc hm ho ht => ?_⟩
  · intro sameGroups
    refine ⟨fun hc hd => ?_, fun hc hd => ?_, fun hc hd => ?_, fun axis g hg hc hm ho ht => ?_⟩
    · exact fault_comes hs (if_pos ⟨PanelState.addressed_iff.2 hc, Option.isSome_iff_ne_none.2 hd⟩)
    · exact fault_comes hs (if_pos ⟨PanelState.powered_iff.2 hc, Option.isSome_iff_ne_none.2 hd⟩)
    · exact fault_comes hs (if_pos ⟨hc, Option.isSome_iff_ne_none.2 hd⟩)
    · exact ⟨_, occur_faulted hs (rowGroupStrike_of_live hg hc hm ho ht),
        State.faulted_recovers (s.seq.strike_alike axis g) .groupFault⟩
  · have hgroups := s.faulted_groups (s.seq.strike axis g) .groupFault
    refine ⟨_, occur_faulted hs (rowGroupStrike_of_live hg hc hm ho ht), fun hfirst => ⟨?_, ?_⟩,
      fun hsecond => ⟨?_, ?_⟩, fun axis' g' _ hother => ⟨?_, ?_⟩⟩
    · rw [(hgroups axis).1, Sequencer.strike_strikeSet _ _ hg, if_pos rfl, hfirst]; rfl
    · rw [(hgroups axis).2, Sequencer.strike_outSet, if_neg fun h => Bool.false_ne_true (hfirst.symm.trans h.2)]
    · rw [(hgroups axis).1, Sequencer.strike_strikeSet _ _ hg, if_pos rfl, hsecond]; rfl
    · rw [(hgroups axis).2, Sequencer.strike_outSet, if_pos ⟨rfl, hsecond⟩, withBit_getLsbD hg, if_pos rfl]
    · rw [(hgroups axis').1, Sequencer.strike_strikeSet _ _ hg, if_neg hother]
    · rw [(hgroups axis').2, Sequencer.strike_outSet_other _ hg hother]

/-! ### The ends of the rest and of the LIT duration (R100, R103) -/

theorem Sequencer.axisOut_iff : q.axisOut = true ↔ q.outX = 255 ∨ q.outY = 255 := by
  simp only [Sequencer.axisOut, Bool.or_eq_true, decide_eq_true_eq]; rfl

theorem rowRestEnd_of_timer (hr : s.seq.panel = .resting) (ht : s.seq.restTimer ≠ none) :
    rowRestEnd s = some (if s.seq.axisOut then s.barNoGroups else s.enterCharging) :=
  if_pos ⟨hr, Option.isSome_iff_ne_none.2 ht⟩

theorem State.barNoGroups_made (s : State) : s.ReportMade s.barNoGroups :=
  let m := (State.enterFault_made { s.emptyWork with seq := { s.seq with panel := .barred, restTimer := none } }
    .noGroups).again (State.reportDue_made _)
  ⟨m.due, m.asked, m.covered⟩

theorem State.barNoGroups_entryKeeps (s : State) : s.EntryKeeps s.barNoGroups where
  memory := by simp
  pins := by simp
  standing := by simp
  inputs := by simp
  refresh := by simp
  decision := by simp
  grant h _ := s.emptyWork_grant h
  count := by simp

/-- Settles O39: the row of each expiry; BARRED is outside LIT, so that nothing follows it. -/
theorem theRestEndsAndTheCountIsForgiven : Obligations.TheRestEndsAndTheCountIsForgiven := by
  intro s hs
  have comes {row : State → Option State} {t : State} (h : row s = some t) :
      occur dueInstant (running row) s = .next t.afterEvent := occur_running_of_some hs.1 hs.2 h
  refine ⟨fun hr ht hx hy => ?_, fun hr ht hout => ?_, fun hl ht => ?_⟩
  · have hin : ¬s.seq.axisOut = true := fun h => (Sequencer.axisOut_iff.1 h).elim hx hy
    have hrow := rowRestEnd_of_timer hr ht
    rw [if_neg hin] at hrow
    exact comes hrow
  · have hrow := rowRestEnd_of_timer hr ht
    rw [if_pos (Sequencer.axisOut_iff.2 hout)] at hrow
    have hnext : exec .restEnd s = .next s.barNoGroups :=
      (comes hrow).trans (congrArg _ (State.afterEvent_of_not_lit fun e => nomatch e))
    exact ⟨_, hnext, rfl, rfl, rfl, s.barNoGroups_made, s.barNoGroups_emptied, s.barNoGroups_letsGo, rfl, rfl,
      s.barNoGroups_entryKeeps, rfl, s.emptyWork_copyGrant⟩
  · exact comes (if_pos ⟨hl, Option.isSome_iff_ne_none.2 ht⟩)

end Sys2Proof.Machine
end

section
/-! PROOFS. The commands of the sequencer (spec/10 10.5): RESTART PANEL and STOP PANEL by panel state, and the fault
kinds that CLEAR FAULTS keeps (R110, R146). -/

namespace Sys2Proof.Machine

variable {s t : State} {q : Sequencer} {p : ParamSet}

/-- A command take with nothing urgent due: the command acts and is recorded with its code (R145). -/
theorem occur_command {isMine : Byte → Bool} {act : State → State × CommandOutcome} {h : HandOver}
    {rest : List HandOver} {code : Byte} (hs : s.ReadyUrgent) (hh : s.control.handOvers = h :: rest)
    (hc : h.isCommand = true) (hcode : lowByte h.data = code) (hm : isMine code = true) {o : CommandOutcome}
    (hact : act (s.takeHandOver h rest) = (t, o)) :
    occur dueUrgent (running (commandRow isMine act)) s = .next (t.recordCommand code o).afterEvent := by
  have hrow := commandRow_of (act := act) hh hc (hcode ▸ hm)
  rw [hact, hcode] at hrow
  exact occur_running_of_some hs.1 hs.2 hrow

/-! ### RESTART PANEL and STOP PANEL (R97, R101, R105, R146) -/

theorem State.doRestart_dark (h : s.seq.panel = .dark) : s.doRestart = (s.enterCharging, .done) := by
  simp only [State.doRestart, h]

theorem State.doRestart_addressed (h : s.seq.panel = .clearing ∨ s.seq.panel = .lit) :
    s.doRestart = (s.softRestart, .done) := by
  obtain h | h := h <;> simp only [State.doRestart, h]

theorem State.doRestart_busy (h : s.seq.panel = .charging ∨ s.seq.panel = .resting) : s.doRestart = (s, .busy) := by
  obtain h | h := h <;> simp only [State.doRestart, h]

theorem State.doRestart_barred (h : s.seq.panel = .barred) : s.doRestart = (s, .wrongState) := by
  simp only [State.doRestart, h]

theorem State.doStop_dark (h : s.seq.panel = .dark) : s.doStop = (s, .wrongState) := by
  simp only [State.doStop, h]

theorem State.doStop_running (h : s.seq.panel ≠ .dark) : s.doStop = (s.enterDark, .done) := by
  unfold State.doStop
  split
  · exact absurd ‹_› h
  all_goals rfl

/-- Settles O20: each panel state has one case of each command. -/
theorem panelCommandsActBySequencerState : Obligations.PanelCommandsActBySequencerState := by
  intro h rest s hs hh hc t
  refine ⟨fun hcode => ⟨fun hd => ?_, fun ha => ?_, fun hb => ?_, fun hb => ?_⟩,
    fun hcode => ⟨fun hd => ?_, fun hn => ?_⟩⟩
  · exact occur_command hs hh hc hcode rfl (State.doRestart_dark (s := t) hd)
  · exact ⟨_, occur_command hs hh hc hcode rfl (State.doRestart_addressed (s := t) ha), t.softRestart_restarts⟩
  · exact occur_command hs hh hc hcode rfl (State.doRestart_busy (s := t) hb)
  · exact occur_command hs hh hc hcode rfl (State.doRestart_barred (s := t) hb)
  · exact occur_command hs hh hc hcode rfl (State.doStop_dark (s := t) hd)
  · exact ⟨_, occur_command hs hh hc hcode rfl (State.doStop_running (s := t) hn), t.enterDark_enters,
      t.enterDark_letsGo, rfl, rfl, rfl, rfl, rfl, t.emptyWork_copyGrant⟩

/-! ### CLEAR FAULTS (R110) -/

/-- The place of a fault kind in the fault set (R138). -/
def FaultKind.place : FaultKind → Nat
  | .hvLow => 0
  | .hvOvercurrent => 1
  | .chargeTimeout => 2
  | .groupFault => 3
  | .recoveryLimit => 4
  | .noGroups => 5

theorem FaultKind.getLsbD_bit (k l : FaultKind) : k.bit.getLsbD l.place = decide (k = l) := by
  cases k <;> cases l <;> rfl

/-- Bit by bit, the kinds whose condition is present. -/
theorem Sequencer.presentBits_getLsbD (q : Sequencer) (p : ParamSet) (k : FaultKind) :
    (q.presentBits p).getLsbD k.place = q.conditionPresent p k := by
  rw [Sequencer.presentBits, getLsbD_foldl_enter]
  simp only [FaultKind.getLsbD_bit]
  cases k <;> simp

/-- In DARK every group is restored to service. -/
def Sequencer.restored (q : Sequencer) : Sequencer :=
  if q.panel = .dark then { q with strikeX := 0, strikeY := 0, outX := 0, outY := 0 } else q

theorem Sequencer.restored_alike (q : Sequencer) : q.AlikeButGroups q.restored := by
  unfold Sequencer.AlikeButGroups Sequencer.restored
  split <;> rfl

theorem Sequencer.restored_dark (h : q.panel = .dark) : q.restored.strikeX = 0 ∧ q.restored.strikeY = 0 ∧
    q.restored.outX = 0 ∧ q.restored.outY = 0 := by
  rw [Sequencer.restored, if_pos h]
  exact ⟨rfl, rfl, rfl, rfl⟩

theorem Sequencer.restored_of_not_dark (h : q.panel ≠ .dark) : q.restored = q := if_neg h

/-- The kinds that stay: those of the fault set whose condition is present, with the groups restored. -/
def Sequencer.keptFaults (q : Sequencer) (p : ParamSet) : BitVec 6 := q.faults &&& q.restored.presentBits p

theorem State.doClearFaults_eq (s : State) : s.doClearFaults = ({ s with seq := { s.seq with
    faults := s.seq.keptFaults s.standing, strikeX := s.seq.restored.strikeX, strikeY := s.seq.restored.strikeY
    outX := s.seq.restored.outX, outY := s.seq.restored.outY } }, .done) := by
  unfold State.doClearFaults Sequencer.keptFaults Sequencer.restored
  split <;> rfl

theorem Sequencer.keptFaults_iff (q : Sequencer) (p : ParamSet) (k : FaultKind) :
    (q.keptFaults p).getLsbD k.place = true ↔
      q.faults.getLsbD k.place = true ∧ q.restored.conditionPresent p k = true := by
  rw [Sequencer.keptFaults, BitVec.getLsbD_and, Sequencer.presentBits_getLsbD, Bool.and_eq_true]

theorem Sequencer.hvLow_present_iff : q.conditionPresent p .hvLow = true ↔
    (q.panel = .clearing ∨ q.panel = .lit) ∧ q.hvok = false := by
  rw [← PanelState.addressed_iff]
  simp only [Sequencer.conditionPresent, Bool.and_eq_true, Bool.not_eq_true']

theorem Sequencer.groupFault_present_iff : q.conditionPresent p .groupFault = true ↔
    (∃ g, g < 8 ∧ p.maskX.getLsbD g = false ∧ q.outX.getLsbD g = false ∧ q.gfx.getLsbD g = true) ∨
      ∃ g, g < 8 ∧ p.maskY.getLsbD g = false ∧ q.outY.getLsbD g = false ∧ q.gfy.getLsbD g = true := by
  simp only [Sequencer.conditionPresent, Sequencer.someGroupFault, List.any_eq_true, List.mem_range, Bool.or_eq_true,
    Bool.and_eq_true, Sequencer.groupWatched_iff, ParamSet.mask, Sequencer.outSet, and_or_left, exists_or]
  refine or_congr (exists_congr fun g => ?_) (exists_congr fun g => ?_) <;> tauto

theorem Sequencer.noGroups_present_iff : q.conditionPresent p .noGroups = true ↔ q.outX = 255 ∨ q.outY = 255 :=
  Sequencer.axisOut_iff

/-- Settles O21: the fault set is the kept one, kind by kind, with the groups as they then stand. -/
theorem clearFaultsKeepsOnlyPresentConditions : Obligations.ClearFaultsKeepsOnlyPresentConditions := by
  intro h rest s hs hh hc hcode t
  have hrestored := s.seq.restored_alike
  have hkept := s.seq.keptFaults_iff s.standing
  refine ⟨s.seq.keptFaults s.standing, s.seq.restored.strikeX, s.seq.restored.strikeY, s.seq.restored.outX,
    s.seq.restored.outY, occur_command hs hh hc hcode rfl t.doClearFaults_eq, Sequencer.restored_dark, fun hn => ?_,
    (hkept .hvLow).trans (and_congr_right' ?_), (hkept .hvOvercurrent).trans (and_congr_right' ?_), ?_,
    (hkept .groupFault).trans (and_congr_right' ?_), (hkept .recoveryLimit).trans (and_congr_right' ?_),
    (hkept .noGroups).trans (and_congr_right' Sequencer.noGroups_present_iff)⟩
  · rw [Sequencer.restored_of_not_dark hn]
    exact ⟨rfl, rfl, rfl, rfl⟩
  · rw [Sequencer.hvLow_present_iff, hrestored]
  · rw [hrestored]; rfl
  · exact Bool.eq_false_iff.2 fun hbit => Bool.false_ne_true ((hkept .chargeTimeout).1 hbit).2
  · rw [Sequencer.groupFault_present_iff, hrestored]
  · rw [hrestored]; exact decide_eq_true_iff

end Sys2Proof.Machine
end

section
/-! PROOFS. The queue and memory (spec/04 4.1, spec/08 8.2): no row touches the queue, and memory changes at the completed
writes and at POR_ASSERT alone. -/

namespace Sys2Proof.Machine

variable {s t u : State}

/-! ### What a row leaves -/

/-- Between `s` and `t` the queue of commands stands, and so does every byte lane of DRAM. -/
structure State.LeavesMemory (s t : State) : Prop where
  pending : t.pending = s.pending
  dram : t.dram = s.dram
  epoch : t.dramEpoch = s.dramEpoch

theorem State.LeavesMemory.of_same (hp : t.pending = s.pending := by simp) (hd : t.dram = s.dram := by simp)
    (he : t.dramEpoch = s.dramEpoch := by simp) : s.LeavesMemory t := ⟨hp, hd, he⟩

theorem State.LeavesMemory.refl (s : State) : s.LeavesMemory s := ⟨rfl, rfl, rfl⟩

theorem State.LeavesMemory.trans (h : s.LeavesMemory t) (k : t.LeavesMemory u) : s.LeavesMemory u :=
  ⟨k.pending.trans h.pending, k.dram.trans h.dram, k.epoch.trans h.epoch⟩

theorem State.LeavesMemory.readLane (k : s.LeavesMemory t) (a : Addr) (high : Bool) :
    t.readLane a high = s.readLane a high := by
  simp only [State.readLane, k.dram, k.epoch]

theorem State.afterEvent_leavesMemory (s : State) : s.LeavesMemory s.afterEvent := .of_same

theorem State.Faults.leavesMemory (h : s.Faults t) : s.LeavesMemory t := by
  obtain ⟨-, q, k, -, rfl⟩ := h
  exact .of_same

/-- A command with its take and its record, for one that leaves memory. -/
theorem commandRow_leavesMemory {isMine : Byte → Bool} {act : State → State × CommandOutcome}
    (hact : ∀ u : State, u.LeavesMemory (act u).1) (h : commandRow isMine act s = some t) : s.LeavesMemory t :=
  commandRow_keeps (P := s.LeavesMemory) (fun k _ _ => k.trans .of_same) (fun k _ _ => k.trans .of_same)
    (fun k => k.trans (hact _)) h (.refl s)

theorem row_of_running {row : State → Option State} (h : running row s = some t) : row s = some t := by
  unfold running at h
  split at h
  · cases h
  · exact h

/-! ### Every row -/

/-- The commands whose rows change memory: POR_ASSERT, and the six completed writes (R52, R114, R118, R119, R122). -/
def memoryCommands : List Instr :=
  [.porAssert, .passthroughWriteDone, .writeBackDone, .wipeWriteDone, .reportBlockDone, .imageGrantDone, .copyWriteDone]

/-- A row leaves the queue and memory, or is one of those that change memory and leaves the queue. -/
theorem rowOf_leavesMemory {c : Instr} (h : rowOf c s = some t) :
    s.LeavesMemory t ∨ (c ∈ memoryCommands ∧ t.pending = s.pending) := by
  cases c
  case porAssert =>
    obtain ⟨-, rfl⟩ := rowPorAssert_cases h
    exact .inr ⟨by simp [memoryCommands], rfl⟩
  case passthroughWriteDone =>
    obtain ⟨a, lanes, w, d, -, -, ⟨-, rfl⟩ | ⟨l, -, rfl⟩⟩ := rowPassthroughWriteDone_cases (row_of_running h) <;>
      exact .inr ⟨by simp [memoryCommands], by simp⟩
  case writeBackDone =>
    obtain ⟨a, w, ⟨-, rfl⟩ | ⟨-, i, -, rfl⟩⟩ := rowWriteBackDone_cases (row_of_running h) <;>
      exact .inr ⟨by simp [memoryCommands], by simp⟩
  case wipeWriteDone =>
    obtain ⟨a, ⟨-, rfl⟩ | ⟨-, ⟨-, rfl⟩ | ⟨-, rfl⟩⟩⟩ := rowWipeWriteDone_cases (row_of_running h) <;>
      exact .inr ⟨by simp [memoryCommands], by simp [State.wipeWritten]⟩
  case reportBlockDone =>
    obtain ⟨words, -, rfl⟩ := rowReportBlockDone_cases (row_of_running h)
    exact .inr ⟨by simp [memoryCommands], by simp⟩
  case imageGrantDone =>
    obtain ⟨n, v, -, rfl, ⟨-, rfl⟩ | rfl⟩ := rowImageGrantDone_cases (row_of_running h) <;>
      exact .inr ⟨by simp [memoryCommands], by simp⟩
  case copyWriteDone =>
    obtain ⟨a, w, ⟨-, rfl⟩ | ⟨-, v, d, q, -, -, rfl⟩⟩ := rowCopyWriteDone_cases (row_of_running h) <;>
      exact .inr ⟨by simp [memoryCommands], by simp⟩
  all_goals left
  case porEnd =>
    obtain ⟨-, rfl⟩ := rowPorEnd_cases h
    exact ⟨rfl, rfl, rfl⟩
  case sysclr => obtain ⟨-, rfl⟩ | ⟨-, rfl⟩ := rowSysclr_cases h <;> exact .of_same
  case sysclrNegate => rw [rowSysclrNegate_cases h]; exact .of_same
  case busRead => obtain ⟨-, rfl | ⟨-, rfl⟩⟩ := rowBusRead_cases h <;> exact .of_same
  case busWrite => obtain ⟨-, rfl | ⟨-, rfl⟩⟩ := rowBusWrite_cases h <;> exact .of_same
  case faultInputChange =>
    obtain ⟨_, _, _, _, _, _, _, _, rfl⟩ := rowFaultInputChange_cases h
    exact .of_same
  all_goals replace h := row_of_running h
  case stallExpiry =>
    obtain ⟨a, l, w, -, rfl⟩ := rowStallExpiry_cases h
    exact .of_same
  case heldWritePlaced =>
    obtain ⟨a, l, w, -, -, rfl⟩ := rowHeldWritePlaced_cases h
    exact .of_same
  case passthroughReadDone =>
    obtain ⟨a, -, -, rfl⟩ := rowPassthroughReadDone_cases h
    exact .of_same
  case stagedWrite =>
    obtain ⟨o, rest, rfl⟩ := rowStagedWrite_cases h
    exact .of_same
  case commit =>
    refine commandRow_leavesMemory (fun u => ?_) h
    obtain e | e | ⟨-, e⟩ := u.doCommit_cases <;> rw [e] <;> exact .of_same
  case restartPanel =>
    refine commandRow_leavesMemory (fun u => ?_) h
    obtain e | ⟨-, e⟩ | ⟨-, e⟩ := u.doRestart_cases <;> rw [e] <;> exact .of_same
  case stopPanel =>
    refine commandRow_leavesMemory (fun u => ?_) h
    obtain e | e := u.doStop_cases <;> rw [e] <;> exact .of_same
  case clearFaults =>
    refine commandRow_leavesMemory (fun u => ?_) h
    obtain ⟨f, ⟨-, e⟩ | e⟩ := u.doClearFaults_cases <;> rw [e] <;> exact .of_same
  case release => exact commandRow_leavesMemory (fun u => ⟨rfl, rfl, rfl⟩) h
  case startCopy =>
    refine commandRow_leavesMemory (fun u => ?_) h
    obtain e | ⟨-, e⟩ := u.doStartCopy_cases <;> rw [e] <;> exact .of_same
  case cancelCopy =>
    refine commandRow_leavesMemory (fun u => ?_) h
    obtain e | ⟨-, -, ⟨-, e⟩ | ⟨-, e⟩⟩ := u.doCancelCopy_cases <;> rw [e] <;> exact .of_same
  case resweepAll =>
    refine commandRow_leavesMemory (fun u => ?_) h
    obtain e | e := u.doResweepAll_cases <;> rw [e] <;> exact .of_same
  case reportNow => exact commandRow_leavesMemory (fun u => .refl u) h
  case unknownCommand => exact commandRow_leavesMemory (fun u => .refl u) h
  case commitApply =>
    obtain ⟨new, -, -, ⟨-, -, rfl⟩ | ⟨-, rfl⟩⟩ := rowCommitApply_cases h <;> exact ⟨rfl, rfl, rfl⟩
  case captureItem =>
    obtain ⟨r, rest, -, -, -, rfl⟩ := rowCaptureItem_cases h
    exact .trans (t := s.captureTaken rest) ⟨rfl, rfl, rfl⟩ .of_same
  case resweepItem =>
    obtain ⟨c, -, -, -, rfl⟩ := rowResweepItem_cases h
    exact .trans (t := s.resweepTaken c) ⟨rfl, rfl, rfl⟩ .of_same
  case wipeItem =>
    obtain ⟨-, -, -, rfl⟩ := rowWipeItem_cases h
    exact .of_same
  case freeEntryWaitEnd =>
    obtain ⟨-, ⟨r, c, rest, -, rfl⟩ | ⟨c, got, toRead, -, rfl⟩⟩ := rowFreeEntryWaitEnd_cases h <;> exact .of_same
  case pictureReadDone =>
    obtain ⟨a, ⟨-, rfl⟩ | ⟨-, c, got, b, more, -, rfl⟩⟩ := rowPictureReadDone_cases h <;> exact .of_same
  case cellWordReadDone =>
    obtain ⟨a, ⟨-, rfl⟩ | ⟨-, i, c, -, -, -, rfl⟩⟩ := rowCellWordReadDone_cases h <;> exact .of_same
  case sustainCycleStart =>
    obtain ⟨-, rfl⟩ := rowSustainCycleStart_cases h
    exact .of_same
  case phaseBStart => rw [rowPhaseBStart_cases h]; exact .of_same
  case addressPulseStart =>
    obtain ⟨p, rfl⟩ := rowAddressPulseStart_cases h
    exact .of_same
  case addressPulseEnd => rw [rowAddressPulseEnd_cases h]; exact .of_same
  case rampTick => rw [rowRampTick_cases h]; exact .of_same
  case hvokSeen =>
    obtain ⟨-, rfl⟩ := rowHvokSeen_cases h
    exact .of_same
  case hvokLost => exact (rowHvokLost_cases h).leavesMemory
  case hvocSeen => exact (rowHvocSeen_cases h).leavesMemory
  case groupStrike => exact (rowGroupStrike_cases h).leavesMemory
  case chargeTimeout => exact (rowChargeTimeout_cases h).leavesMemory
  case restEnd => obtain ⟨-, ⟨-, rfl⟩ | ⟨-, rfl⟩⟩ := rowRestEnd_cases h <;> exact .of_same
  case litDurationExpiry =>
    obtain ⟨-, rfl⟩ := rowLitDurationExpiry_cases h
    exact .of_same
  case refreshDue => rw [rowRefreshDue_cases h]; exact .of_same
  case refreshDone =>
    obtain ⟨-, rfl⟩ := rowRefreshDone_cases h
    exact .of_same
  case grantDecision =>
    obtain ⟨-, q, rfl, -⟩ := rowGrantDecision_cases h
    exact .of_same
  case reportBlockGrant =>
    obtain ⟨-, rfl⟩ := rowReportBlockGrant_cases h
    exact .of_same
  case copyReadDone =>
    obtain ⟨a, ⟨-, rfl⟩ | ⟨-, -, ⟨-, rfl⟩ | ⟨-, rfl⟩⟩⟩ := rowCopyReadDone_cases h <;> exact .of_same
  case copyPlaceGiven =>
    obtain ⟨w, -, -, rfl⟩ := rowCopyPlaceGiven_cases h
    exact .of_same

/-! ### The steps due at once -/

/-- The step leaves the queue and memory, while POR is negated. -/
structure StepLeavesMemory (row : State → Option State) : Prop where
  leaves : ∀ {s t : State}, s.por = false → row s = some t → s.LeavesMemory t

theorem StepLeavesMemory.none : StepLeavesMemory fun _ => Option.none := ⟨fun _ h => nomatch h⟩

theorem StepLeavesMemory.or {row other : State → Option State} (h : StepLeavesMemory row) (k : StepLeavesMemory other) :
    StepLeavesMemory fun s => (row s).or (other s) :=
  ⟨fun hp hr => (Option.or_eq_some_iff.1 hr).elim (h.leaves hp) fun hr => k.leaves hp hr.2⟩

theorem StepLeavesMemory.ite {p : State → Prop} [DecidablePred p] {row other : State → Option State}
    (h : StepLeavesMemory row) (k : StepLeavesMemory other) :
    StepLeavesMemory fun s => if p s then row s else other s where
  leaves hp hr := by
    split at hr
    exacts [h.leaves hp hr, k.leaves hp hr]

/-- The step with the close of its event. -/
theorem StepLeavesMemory.closed {row : State → Option State} (h : StepLeavesMemory row) :
    StepLeavesMemory fun s => (row s).map State.afterEvent where
  leaves hp hr := by
    obtain ⟨u, hu, rfl⟩ := Option.map_eq_some_iff.1 hr
    exact (h.leaves hp hu).trans u.afterEvent_leavesMemory

/-- The row of a command that does not change memory. -/
theorem StepLeavesMemory.row {row : State → Option State} (c : Instr)
    (hc : c ∉ memoryCommands := by simp [memoryCommands]) (hr : rowOf c = running row := by rfl) :
    StepLeavesMemory row where
  leaves hp h :=
    (rowOf_leavesMemory (c := c) (by rw [hr, running_of_not_por hp, h])).resolve_right fun hm => hc hm.1

theorem takePresented_leavesMemory : StepLeavesMemory takePresented where
  leaves _ h := by
    obtain ⟨-, ⟨a, rfl⟩ | ⟨a, v, b, w, rfl⟩⟩ := takePresented_cases h <;> exact .of_same

theorem rowPresentedOrGrant_leavesMemory : StepLeavesMemory rowPresentedOrGrant :=
  .or takePresented_leavesMemory (.row .grantDecision)

theorem rowHandOver_leavesMemory : StepLeavesMemory rowHandOver :=
  .or (.row .stagedWrite) <| .or (.row .commit) <| .or (.row .restartPanel) <| .or (.row .stopPanel) <|
    .or (.row .clearFaults) <| .or (.row .release) <| .or (.row .startCopy) <| .or (.row .cancelCopy) <|
      .or (.row .resweepAll) <| .or (.row .reportNow) (.row .unknownCommand)

theorem rowSeenAtOnce_leavesMemory : StepLeavesMemory rowSeenAtOnce := by
  refine .ite (.row .hvocSeen) <| .ite (.or (.row .hvokSeen) (.row .hvokLost)) ⟨fun hp h => ?_⟩
  split at h
  · exact (StepLeavesMemory.row (.groupStrike .x _)).leaves hp h
  · exact (StepLeavesMemory.row (.groupStrike .y _)).leaves hp h
  · cases h

theorem dueUrgent_leavesMemory : StepLeavesMemory dueUrgent :=
  .ite .none <| .closed <| .or (.ite (.row .sustainCycleStart) .none) <| .or (.row .reportBlockGrant) <|
    .or (.row .heldWritePlaced) <| .or (.row .copyPlaceGiven) <| .or (.row .commitApply) <| .or (.row .captureItem) <|
      .or (.row .resweepItem) <| .or (.row .wipeItem) (.row .freeEntryWaitEnd)

theorem dueInstant_leavesMemory : StepLeavesMemory dueInstant :=
  .or dueUrgent_leavesMemory <| .ite .none <| .closed rowPresentedOrGrant_leavesMemory

theorem dueAny_leavesMemory : StepLeavesMemory dueAny :=
  .or dueUrgent_leavesMemory <| .ite .none <| .closed <| .or rowSeenAtOnce_leavesMemory <|
    .or rowHandOver_leavesMemory rowPresentedOrGrant_leavesMemory

/-- No step that a command waits for touches the queue or memory. -/
theorem dueBefore_leavesMemory {c : Instr} (h : dueBefore c s = some t) : s.LeavesMemory t := by
  obtain e | e | e | e := dueBefore_cases c <;> rw [e] at h
  · cases h
  · exact dueUrgent_leavesMemory.leaves (dueUrgent_inner h).1 h
  · exact dueInstant_leavesMemory.leaves (dueInstant_inner h).1 h
  · exact dueAny_leavesMemory.leaves (dueAny_inner h).1 h

/-! ### Every command -/

theorem exec_leavesMemory {c : Instr} (hc : c ∉ memoryCommands) (h : exec c s = .next t) : s.LeavesMemory t := by
  rw [exec_eq_occur] at h
  refine occur_keeps (P := s.LeavesMemory) (fun hd k => k.trans (dueBefore_leavesMemory hd)) (fun hr k => k.trans ?_)
    (fun {u} k => k.trans u.afterEvent_leavesMemory) h (.refl s)
  exact (rowOf_leavesMemory hr).resolve_right fun hm => hc hm.1

theorem exec_pending {c : Instr} (h : exec c s = .next t) : t.pending = s.pending := by
  rw [exec_eq_occur] at h
  refine occur_keeps (P := fun u => u.pending = s.pending) (fun hd k => (dueBefore_leavesMemory hd).pending.trans k)
    (fun hr k => ?_) (fun {u} k => u.afterEvent_leavesMemory.pending.trans k) h rfl
  obtain m | ⟨-, e⟩ := rowOf_leavesMemory hr
  exacts [m.pending.trans k, e.trans k]

theorem step_of_pending_nil (h : s.pending = []) : step s = .next s := by rw [step, h]

/-- Settles O2: the due steps and the row of each command, for the queue and for memory. -/
theorem theQueueAndMemoryAreLeftAlone : Obligations.TheQueueAndMemoryAreLeftAlone :=
  ⟨⟨fun _ => step_of_pending_nil, fun _ _ _ => exec_pending⟩, fun _ _ _ hc h => (exec_leavesMemory hc h).readLane⟩

end Sys2Proof.Machine
end

section
/-! PROOFS. The end of POR, the refresh and the grants of the report unit (spec/08 8.1, 8.4, 8.6; spec/11 11.3, 11.4): each
is one row. -/

namespace Sys2Proof.Machine

variable {s t : State}

/-! ### The end of POR (R122) -/

theorem rowPorEnd_of_por (hp : s.por = true) (straps : BitVec 2) : rowPorEnd straps s = some (s.porEnded straps) :=
  if_pos hp

/-- Settles O5: the part is in DARK then, so that nothing follows. -/
theorem porEndGivesEveryBlockItsResetState : Obligations.PorEndGivesEveryBlockItsResetState := by
  intro straps s hp
  have hnext : exec (.porEnd straps) s = .next (s.porEnded straps).afterEvent :=
    occur_of_some (due := dueNone) rfl (rowPorEnd_of_por hp straps)
  rw [hnext, State.afterEvent_of_not_lit (s := s.porEnded straps) fun e => nomatch e]
  rfl

/-! ### Refresh (R116) -/

theorem rowRefreshDue_of_timer (h : s.port.refreshTimer ≠ none) : rowRefreshDue s = some { s with port := { s.port with
    pendingRefresh := true, refreshWaiting := true, refreshTimer := some 14 } } :=
  if_pos (Option.isSome_iff_ne_none.2 h)

theorem rowRefreshDone_of_grant (h : s.port.current = some .refresh) : rowRefreshDone s = some { s with
    port := { s.port with current := none, deciding := true, refreshRow := s.port.refreshRow + 1
                          pendingRefresh := s.port.refreshWaiting } } := by
  rw [rowRefreshDone, h]
  rfl

/-- Settles O40: the row of each of the two events. -/
theorem refreshFallsDueAndAdvancesTheRow : Obligations.RefreshFallsDueAndAdvancesTheRow := fun _ hs =>
  ⟨fun h => occur_running_of_some hs.1 hs.2 (rowRefreshDue_of_timer h),
    fun h => occur_running_of_some hs.1 hs.2 (rowRefreshDone_of_grant h)⟩

/-! ### Report blocks and the image (R119, R154) -/

/-- The words of a report block whose values are taken as the part stands (R154). -/
def State.nextWords (s : State) : List Word := s.reportWords (s.report.writeCount + 1)

/-- The part with the values of a granted block taken, and the block being written (R154). -/
def State.valuesTaken (s : State) : State :=
  { s with
    report := { s.report with due := false, writeCount := s.report.writeCount + 1, block := .writing }
    port := { s.port with current := some (.reportBlock (some s.nextWords)) } }

theorem rowReportBlockGrant_of_grant (h : s.port.current = some (.reportBlock none)) :
    rowReportBlockGrant s = some s.valuesTaken := by
  rw [rowReportBlockGrant, h]
  rfl

theorem rowReportBlockDone_of_values {words : List Word} (h : s.port.current = some (.reportBlock (some words))) :
    rowReportBlockDone s = some (s.endGrant.writeBlock (controlPageStart s.straps + 240) words).blockIdle := by
  rw [rowReportBlockDone, h]

/-- The words of an image grant stand (R119, R140). -/
def State.imageWritten (s : State) (n : Nat) : State :=
  s.endGrant.writeBlock (controlPageStart s.straps + (imageWords n).1) (imageWords n).2

/-- The first three image grants ask for the next. -/
theorem rowImageGrantDone_next {n : Nat} (h : s.port.current = some (.image n)) (hn : n < 4) :
    rowImageGrantDone s = some { s.imageWritten n with
      port := { s.endGrant.port with reportWaiting := some (.image (n + 1)) } } := by
  have hport : (s.imageWritten n).port = s.endGrant.port := by simp [State.imageWritten]
  rw [rowImageGrantDone, h, ← hport]
  exact congrArg some (if_pos hn)

theorem rowImageGrantDone_last (h : s.port.current = some (.image 4)) :
    rowImageGrantDone s = some (s.imageWritten 4).blockIdle := by
  rw [rowImageGrantDone, h]
  rfl

/-- Settles O43: the values at the grant, the block at its completion, and the image grants in their order. -/
theorem reportBlocksAndTheImage : Obligations.ReportBlocksAndTheImage := by
  refine ⟨fun s hp h => occur_running_of_some (due := dueNone) hp rfl (rowReportBlockGrant_of_grant h), ?_⟩
  intro s hs page ended idle
  refine ⟨fun words h => ?_, fun n first words hn h => ?_, fun h => ?_⟩
  · exact occur_running_of_some hs.1 hs.2 (rowReportBlockDone_of_values h)
  · have hwords : n < 4 ∧ imageWords n = (first, words) := by
      simp only [List.mem_cons, Prod.mk.injEq, List.not_mem_nil, or_false] at hn
      rcases hn with ⟨rfl, rfl, rfl⟩ | ⟨rfl, rfl, rfl⟩ | ⟨rfl, rfl, rfl⟩ <;> exact ⟨by decide, rfl⟩
    have hnext : exec .imageGrantDone s = _ := occur_running_of_some hs.1 hs.2 (rowImageGrantDone_next h hwords.1)
    rw [State.imageWritten, hwords.2] at hnext
    exact hnext
  · exact occur_running_of_some hs.1 hs.2 (rowImageGrantDone_last h)

end Sys2Proof.Machine
end

section
/-! PROOFS. The port's decision (spec/08 8.1): by rank at the end of a grant, any arrival at an idle port, and due at once,
so that a report block that waits at the end of a passthrough is granted before the next bus cycle (R112, R113, R117,
R118). -/

namespace Sys2Proof.Machine

variable {s t u : State} {p q : MemoryPort}

/-! ### The decision at the end of a grant, by rank (R112) -/

theorem MemoryPort.grantHighest_refresh (h : p.refreshWaiting = true) :
    p.grantHighest = { p.give .refresh with refreshWaiting := false } := by
  simp [MemoryPort.grantHighest, MemoryPort.candidates, h]

theorem MemoryPort.grantHighest_passthrough (hr : p.refreshWaiting = false) (h : p.passWaiting = true) :
    p.grantHighest = { p.give .passthrough with passWaiting := false } := by
  simp [MemoryPort.grantHighest, MemoryPort.candidates, hr, h]

theorem MemoryPort.grantHighest_report (hr : p.refreshWaiting = false) (hp : p.passWaiting = false) {r : ReportRequest}
    (h : p.reportWaiting = some r) : p.grantHighest = { p.give r.grant with reportWaiting := none } := by
  simp [MemoryPort.grantHighest, MemoryPort.candidates, hr, hp, h]

theorem MemoryPort.grantHighest_render (hr : p.refreshWaiting = false) (hp : p.passWaiting = false)
    (hb : p.reportWaiting = none) {a : RenderAccess} (h : p.renderWaiting = some a) :
    p.grantHighest = { p.give (.render a true) with renderWaiting := none } := by
  simp [MemoryPort.grantHighest, MemoryPort.candidates, hr, hp, hb, h]

theorem MemoryPort.grantHighest_copy (hr : p.refreshWaiting = false) (hp : p.passWaiting = false)
    (hb : p.reportWaiting = none) (hi : p.renderWaiting = none) {a : CopyAccess} (h : p.copyWaiting = some a) :
    p.grantHighest = { p.give (.copy a true) with copyWaiting := none } := by
  simp [MemoryPort.grantHighest, MemoryPort.candidates, hr, hp, hb, hi, h]

theorem MemoryPort.grantHighest_idle (hr : p.refreshWaiting = false) (hp : p.passWaiting = false)
    (hb : p.reportWaiting = none) (hi : p.renderWaiting = none) (hc : p.copyWaiting = none) :
    p.grantHighest = { p with deciding := false } := by
  simp [MemoryPort.grantHighest, MemoryPort.candidates, hr, hp, hb, hi, hc]

/-! ### The requests that can be granted -/

/-- The port after a grant of one of its waiting requests. -/
def MemoryPort.Grantable (p q : MemoryPort) : Prop :=
  (p.refreshWaiting = true ∧ q = { p.give .refresh with refreshWaiting := false }) ∨
  (p.passWaiting = true ∧ q = { p.give .passthrough with passWaiting := false }) ∨
  (p.reportWaiting = some .block ∧ q = { p.give (.reportBlock none) with reportWaiting := none }) ∨
  (∃ n, p.reportWaiting = some (.image n) ∧ q = { p.give (.image n) with reportWaiting := none }) ∨
  (∃ a, p.renderWaiting = some a ∧ q = { p.give (.render a true) with renderWaiting := none }) ∨
  ∃ a, p.copyWaiting = some a ∧ q = { p.give (.copy a true) with copyWaiting := none }

theorem ReportRequest.exists_iff {P : ReportRequest → Prop} : (∃ r, P r) ↔ P .block ∨ ∃ n, P (.image n) := by
  constructor
  · rintro ⟨_ | n, h⟩
    exacts [.inl h, .inr ⟨n, h⟩]
  · rintro (h | ⟨n, h⟩)
    exacts [⟨_, h⟩, ⟨_, h⟩]

theorem MemoryPort.grantable_iff : p.Grantable q ↔ q ∈ p.candidates := by
  rw [MemoryPort.mem_candidates, ReportRequest.exists_iff, or_assoc]
  rfl

theorem MemoryPort.candidates_eq_nil_iff : p.candidates = [] ↔ p.refreshWaiting = false ∧ p.passWaiting = false ∧
    p.reportWaiting = none ∧ p.renderWaiting = none ∧ p.copyWaiting = none := by
  simp [MemoryPort.candidates]

/-- The rank of a requester, the highest first (R112). -/
def Grant.rank : Grant → Nat
  | .refresh => 0
  | .passthrough => 1
  | .reportBlock _ | .image _ => 2
  | .render _ _ => 3
  | .copy _ _ => 4

/-- The grants that can be made stand in the order of their ranks, at most one of each. -/
theorem MemoryPort.candidates_ranks (p : MemoryPort) :
    (p.candidates.map fun q => q.current.map Grant.rank).Sublist
      ([some 0] ++ [some 1] ++ [some 2] ++ [some 3] ++ [some 4]) := by
  simp only [MemoryPort.candidates, List.map_append]
  refine .append (.append (.append (.append ?_ ?_) ?_) ?_) ?_
  · cases p.refreshWaiting <;> simp [MemoryPort.give, Grant.rank]
  · cases p.passWaiting <;> simp [MemoryPort.give, Grant.rank]
  · rcases p.reportWaiting with _ | _ | n <;> simp [MemoryPort.give, ReportRequest.grant, Grant.rank]
  · cases p.renderWaiting <;> simp [MemoryPort.give, Grant.rank]
  · cases p.copyWaiting <;> simp [MemoryPort.give, Grant.rank]

theorem MemoryPort.candidates_nodup (p : MemoryPort) : p.candidates.Nodup :=
  .of_map _ (p.candidates_ranks.nodup (by decide))

/-! ### The decision at an idle port (R113) -/

/-- One request alone is granted. -/
theorem MemoryPort.grantArrived_of_only (hq : q ∈ p.candidates) (h : ∀ r ∈ p.candidates, r = q) :
    p.grantArrived = some q := by
  have hall := List.eq_replicate_of_mem h
  have hlen : p.candidates.length = 1 := by
    have hpos : p.candidates.length ≠ 0 := by simpa using List.ne_nil_of_mem hq
    have hle : p.candidates.length ≤ 1 := List.nodup_replicate.1 (hall ▸ p.candidates_nodup)
    omega
  rw [hlen] at hall
  rw [MemoryPort.grantArrived, hall]
  rfl

theorem MemoryPort.grantArrived_eq_none_iff : p.grantArrived = none ↔ p.candidates = [] := by
  unfold MemoryPort.grantArrived
  split <;> simp_all

/-! ### The row -/

theorem rowGrantDecision_ended (hc : s.port.current = none) (hd : s.port.deciding = true) :
    rowGrantDecision s = some { s with port := s.port.grantHighest } := by
  simp only [rowGrantDecision, hc, hd, if_true, Option.map_some]

theorem rowGrantDecision_arrived (hc : s.port.current = none) (hd : s.port.deciding = false) :
    rowGrantDecision s = s.port.grantArrived.map fun p => { s with port := p } := by
  simp only [rowGrantDecision, hc, hd, Bool.false_eq_true, if_false]

/-- With no grant in progress the decision comes about at the end of a grant, or with a request waiting. -/
theorem rowGrantDecision_isSome (hc : s.port.current = none) (h : s.port.deciding = true ∨ s.port.candidates ≠ []) :
    ∃ t, rowGrantDecision s = some t := by
  cases hd : s.port.deciding with
  | true => exact ⟨_, rowGrantDecision_ended hc hd⟩
  | false =>
    have hn : s.port.grantArrived ≠ none :=
      mt MemoryPort.grantArrived_eq_none_iff.1 (h.resolve_left (by simp [hd]))
    obtain ⟨p, hp⟩ := Option.ne_none_iff_exists'.1 hn
    exact ⟨_, by rw [rowGrantDecision_arrived hc hd, hp]; rfl⟩

theorem exec_grantDecision_of_some (hs : s.ReadyUrgent) (h : rowGrantDecision s = some t) :
    exec .grantDecision s = .next t.afterEvent :=
  occur_running_of_some hs.1 hs.2 h

theorem exec_grantDecision_of_none (hs : s.ReadyUrgent) (h : rowGrantDecision s = none) :
    exec .grantDecision s = .next s :=
  occur_running_of_none hs.1 hs.2 h

/-! ### The decision is due at once (R113, R117, R122) -/

theorem takePresented_of_no_cycle (h : s.passage.presented = none ∨ s.sysclr = true) : takePresented s = none := by
  unfold takePresented
  split
  · rfl
  · rename_i hn
    obtain h | h := h
    · rw [h]
    · simp [h] at hn

theorem dueInstant_of_decision (hs : s.ReadyUrgent) (hi : takePresented s = none) (h : rowGrantDecision s = some t) :
    dueInstant s = some t.afterEvent := by
  simp only [dueInstant, hs.2, hs.1, rowPresentedOrGrant, hi, h, Bool.false_eq_true, if_false, Option.none_or,
    Option.map_some]

theorem dueAny_of_decision (hs : s.ReadyUrgent) (hseen : rowSeenAtOnce s = none) (hh : s.control.handOvers = [])
    (hi : takePresented s = none) (h : rowGrantDecision s = some t) : dueAny s = some t.afterEvent := by
  simp only [dueAny, hs.2, hs.1, hseen, rowHandOver_none hh, rowPresentedOrGrant, hi, h, Bool.false_eq_true, if_false,
    Option.none_or, Option.map_some]

/-! ### A report block that is granted (R118, R154) -/

/-- The part with the report block granted that waits (R113, R118). -/
def State.blockGranted (s : State) : State :=
  { s with port := { s.port.give (.reportBlock none) with reportWaiting := none } }

/-- The values of a granted block are the next step at once, the first cycle of a started sustain apart. -/
theorem dueUrgent_of_blockGranted (hp : s.por = false) (hn : s.address.phase = .notBegun → rowSustainCycleStart s = none)
    (h : s.port.current = some (.reportBlock none)) : dueUrgent s = some s.valuesTaken.afterEvent := by
  have hfirst : (if s.address.phase = .notBegun then rowSustainCycleStart s else none) = none := by
    simpa only [ite_eq_right_iff] using hn
  simp only [dueUrgent, hp, Bool.false_eq_true, if_false, hfirst, rowReportBlockGrant_of_grant h, Option.none_or,
    Option.some_or, Option.map_some]

theorem State.NothingNew.refl (h : s.passage.holds = true → s.capture.hasFree = false) : s.NothingNew s :=
  ⟨rfl, rfl, rfl, rfl, rfl, .inl rfl, rfl, rfl, rfl, rfl, rfl, rfl, rfl, id, h⟩

/-- The steps due at once read nothing of the report unit, and of the port the grant in progress. -/
theorem State.NothingNew.valuesTaken (k : s.NothingNew t) (h : p.current = some (.reportBlock (some t.nextWords))) :
    State.NothingNew { s with port := p } t.valuesTaken where
  por := k.por
  address := k.address
  current := h.symm
  item := k.item
  wipe := k.wipe
  count := k.count
  control := k.control
  records := k.records
  stale := k.stale
  queue := k.queue
  standing := k.standing
  seq := k.seq
  copy := k.copy
  free := k.free
  held := k.held

/-- A grant that is neither the render stage's nor a block without its values brings no step about at once. -/
theorem dueUrgent_withPort (hs : s.ReadyUrgent) (hn : s.passage.holds = false) (hr : p.rendering = s.port.rendering)
    (hb : p.current ≠ some (.reportBlock none)) : dueUrgent { s with port := p } = none := by
  obtain ⟨hsustain, -, -, hplace, hcommit, hcapture, hresweep, hwipe, hroom⟩ := (dueUrgent_none_iff hs.1).1 hs.2
  have hchoose : State.canChoose { s with port := p } = s.canChoose := by simp only [State.canChoose, hr]
  refine (dueUrgent_none_iff (s := { s with port := p }) hs.1).2 ⟨?_, rowReportBlockGrant_none_iff.2 hb,
    rowHeldWritePlaced_none_of fun e => Bool.noConfusion (hn.symm.trans e), ?_, ?_, ?_, ?_, ?_, ?_⟩
  · rw [rowSustainCycleStart_none_iff] at hsustain ⊢
    exact hsustain
  · rw [rowCopyPlaceGiven_none_iff] at hplace ⊢
    exact hplace
  · rw [rowCommitApply_none_iff] at hcommit ⊢
    exact hcommit
  · rw [rowCaptureItem_none_iff] at hcapture ⊢
    rwa [hchoose]
  · rw [rowResweepItem_none_iff] at hresweep ⊢
    rwa [hchoose]
  · rw [rowWipeItem_none_iff] at hwipe ⊢
    rwa [hchoose]
  · rw [rowFreeEntryWaitEnd_none_iff] at hroom ⊢
    exact hroom

theorem Passage.holds_of_no_cycle {p : Passage} (h : p.inHand = none) : p.holds = false := by
  simp only [Passage.holds, h]

/-- The part with its block granted and, in the next step, the values taken (R113, R154). -/
def State.blockValued (s : State) : State := s.blockGranted.afterEvent.valuesTaken.afterEvent

/-- The words of that block. -/
def State.blockWords (s : State) : List Word := s.blockGranted.afterEvent.nextWords

theorem State.blockGranted_nothingNew (hn : s.passage.inHand = none) :
    s.blockGranted.NothingNew s.blockGranted.afterEvent :=
  State.NothingNew.afterEvent <| .refl (s := s.blockGranted) fun e =>
    Bool.noConfusion ((Passage.holds_of_no_cycle hn).symm.trans e)

/-- But for the grant, nothing new is due in that state. -/
theorem State.blockValued_nothingNew (hn : s.passage.inHand = none) :
    State.NothingNew { s with port := s.port.give (.reportBlock (some s.blockWords)) } s.blockValued :=
  ((State.blockGranted_nothingNew hn).valuesTaken (p := s.port.give (.reportBlock (some s.blockWords))) rfl).afterEvent

theorem dueAny_of_blockWaiting (hs : s.ReadyUrgent) (hpres : s.passage.presented = none) (hseen : rowSeenAtOnce s = none)
    (hh : s.control.handOvers = []) (hc : s.port.current = none) (hd : s.port.deciding = true)
    (hr : s.port.refreshWaiting = false) (hp : s.port.passWaiting = false) (hb : s.port.reportWaiting = some .block) :
    dueAny s = some s.blockGranted.afterEvent := by
  refine dueAny_of_decision hs hseen hh (takePresented_of_no_cycle (.inl hpres)) ?_
  rw [rowGrantDecision_ended hc hd, MemoryPort.grantHighest_report hr hp hb]
  rfl

theorem dueAny_of_blockGranted (hs : s.ReadyUrgent) (hn : s.passage.inHand = none) :
    dueAny s.blockGranted.afterEvent = some s.blockValued := by
  have k := State.blockGranted_nothingNew hn
  have hsustain : s.blockGranted.afterEvent.address.phase = .notBegun →
      rowSustainCycleStart s.blockGranted.afterEvent = none := by
    have hnone := ((dueUrgent_none_iff hs.1).1 hs.2).1
    rw [rowSustainCycleStart_none_iff] at hnone ⊢
    rw [k.address]
    exact hnone
  rw [dueAny, dueUrgent_of_blockGranted (k.por.trans hs.1) hsustain k.current]
  rfl

theorem dueAny_of_blockValued (hs : s.ReadyUrgent) (hn : s.passage.inHand = none) (hpres : s.passage.presented = none)
    (hseen : rowSeenAtOnce s = none) (hh : s.control.handOvers = []) (hc : s.port.current = none) :
    dueAny s.blockValued = none := by
  have k := State.blockValued_nothingNew hn
  have hholds := Passage.holds_of_no_cycle hn
  have hurgent := dueUrgent_withPort (p := s.port.give (.reportBlock (some s.blockWords))) hs hholds
    (by simp only [MemoryPort.rendering, hc]; rfl) (fun e => nomatch e)
  refine dueAny_none_of (k.dueUrgent hs.1 hholds hurgent) (rowSeenAtOnce_none_of (s := s) k.seq k.standing hseen)
    (by rw [k.control, hh]) (takePresented_of_no_cycle (.inl ?_)) (by rw [k.current]; exact Option.some_ne_none _)
  simpa [State.blockValued, State.valuesTaken, State.blockGranted] using hpres

/-- Two steps are due, one after the other. -/
theorem occur_of_two_due {due row : State → Option State} {v : State} (hs : due s = some t) (ht : due t = some u)
    (hu : due u = none) (hr : row u = some v) : occur due row s = .next v.afterEvent := by
  obtain ⟨n, hbound⟩ : ∃ n, dueBound s = n + 1 := ⟨_, rfl⟩
  simp only [occur, hbound, settle, hs, ht, settle_of_none _ hu, hr]

/-- Settles O41: the ranks at the end of a grant, the arrivals at an idle port, and the decision among the due steps. -/
theorem theHighestRankIsGranted : Obligations.TheHighestRankIsGranted := by
  refine ⟨fun s hs => ?_, fun s hs hc hcycle h => ?_, fun a s hs hl hn hpres hseen hh hc hd hr hp hb => ?_⟩
  · intro given grant
    refine ⟨fun hc => exec_grantDecision_of_none hs (rowGrantDecision_none hc), fun hc hd => ?_, fun hc hd => ?_⟩
    · have highest {p : MemoryPort} (h : s.port.grantHighest = p) : grant p :=
        exec_grantDecision_of_some hs (h ▸ rowGrantDecision_ended hc hd)
      exact ⟨fun h => highest (MemoryPort.grantHighest_refresh h),
        fun hr => ⟨fun h => highest (MemoryPort.grantHighest_passthrough hr h),
          fun hp => ⟨fun h => highest (MemoryPort.grantHighest_report hr hp h),
            fun n h => highest (MemoryPort.grantHighest_report hr hp h),
            fun hb => ⟨fun a h => highest (MemoryPort.grantHighest_render hr hp hb h),
              fun hi => ⟨fun a h => highest (MemoryPort.grantHighest_copy hr hp hb hi h),
                fun h => highest (MemoryPort.grantHighest_idle hr hp hb hi h)⟩⟩⟩⟩⟩
    · intro grantable
      have hmem (p : MemoryPort) : grantable p ↔ p ∈ s.port.candidates := MemoryPort.grantable_iff
      have arrived {p : MemoryPort} (h : s.port.grantArrived = some p) : grant p :=
        exec_grantDecision_of_some hs (by rw [rowGrantDecision_arrived hc hd, h]; rfl)
      refine ⟨fun p hp honly => ?_, fun ⟨p, hp⟩ => ?_, fun hnone => ?_⟩
      · exact arrived (MemoryPort.grantArrived_of_only ((hmem p).1 hp) fun q hq => honly q ((hmem q).2 hq))
      · obtain ⟨q, hq⟩ := Option.ne_none_iff_exists'.1 (mt MemoryPort.grantArrived_eq_none_iff.1
          (List.ne_nil_of_mem ((hmem p).1 hp)))
        obtain ⟨g, hg, rfl | rfl⟩ := MemoryPort.grantArrived_cases hq
        exacts [⟨q, q.ties, (hmem q).2 hg, arrived hq⟩, ⟨g, _, (hmem g).2 hg, arrived hq⟩]
      · have hnil : s.port.candidates = [] := List.eq_nil_iff_forall_not_mem.2 fun p hp => hnone p ((hmem p).2 hp)
        refine exec_grantDecision_of_none hs ?_
        rw [rowGrantDecision_arrived hc hd, MemoryPort.grantArrived_eq_none_iff.2 hnil]
        rfl
  · have hwaits : s.port.deciding = true ∨ s.port.candidates ≠ [] := by
      rw [Ne, MemoryPort.candidates_eq_nil_iff]
      simpa [imp_iff_not_or] using h
    obtain ⟨t, ht⟩ := rowGrantDecision_isSome hc hwaits
    have hi := takePresented_of_no_cycle hcycle
    exact ⟨_, exec_grantDecision_of_some hs ht, dueInstant_of_decision hs hi ht,
      fun hseen hh => dueAny_of_decision hs hseen hh hi ht⟩
  · have hpassage : s.blockValued.passage = s.passage := by
      simp [State.blockValued, State.valuesTaken, State.blockGranted]
    have hsys : s.blockValued.sysclr = s.sysclr := by simp [State.blockValued, State.valuesTaken, State.blockGranted]
    have hcurrent : s.blockValued.port.current = some (.reportBlock (some s.blockWords)) :=
      (State.blockValued_nothingNew hn).current
    have hrow : rowBusRead a s.blockValued = some (s.blockValued.takeRead a) :=
      rowBusRead_taken ((State.blockValued_nothingNew hn).por.trans hs.1) (hsys.trans hl) (by rw [hpassage, hn])
    refine ⟨_, s.blockWords, occur_of_two_due (dueAny_of_blockWaiting hs hpres hseen hh hc hd hr hp hb)
      (dueAny_of_blockGranted hs hn) (dueAny_of_blockValued hs hn hpres hseen hh hc) hrow, ?_, ?_, ?_⟩
    · simpa using hcurrent
    · simp [State.takeRead]
    · simp [State.takeRead, State.askPassthrough]

end Sys2Proof.Machine
end

section
/-! PROOFS. The rectangle copy engine (spec/09): the request and its checks, START COPY and CANCEL COPY, and the
destination writes. -/

namespace Sys2Proof.Machine

variable {s : State} {q : CopyRequest}

/-! ### The request (R123) -/

theorem clampTo_one {hi : Nat} (h : 1 ≤ hi) (v : Nat) : clampTo 1 hi v = if v = 0 then 1 else min hi v := by
  rw [clampTo]
  split <;> omega

theorem ControlBlock.copyRequest_mode_iff (c : ControlBlock) :
    c.copyRequest.mode = .copy ↔ (c.copyWord 96).toNat = 0 := by
  have hmode : c.copyRequest.mode = if c.copyWord 96 = 0 then .copy else .fill := rfl
  have hzero : (c.copyWord 96).toNat = 0 ↔ c.copyWord 96 = 0 := BitVec.toNat_inj (x := c.copyWord 96) (y := 0)
  rw [hmode, hzero]
  split <;> simp_all

/-- Word `i` of row `r` of a rectangle lies at or before its last word. -/
theorem rectangle_le_end {start pitch rows words r i : Nat} (hr : r < rows) (hi : i < words) :
    start + r * pitch + i ≤ start + (rows - 1) * pitch + words - 1 := by
  have hrow : r * pitch ≤ (rows - 1) * pitch := Nat.mul_le_mul_right pitch (by omega)
  omega

theorem addressOfNat_toNat {n : Nat} (h : n ≤ 262143) : (BitVec.ofNat 18 n).toNat = n :=
  (BitVec.toNat_ofNat n 18).trans (Nat.mod_eq_of_lt (Nat.lt_succ_of_le h))

theorem CopyRequest.sourceAt_toNat {r i : Nat} (hr : r < q.rows) (hi : i < q.words) (he : q.sourceEnd ≤ 262143) :
    (q.sourceAt r i).toNat = q.source + r * q.sourcePitch + i :=
  addressOfNat_toNat ((rectangle_le_end hr hi).trans he)

theorem CopyRequest.destAt_toNat {r i : Nat} (hr : r < q.rows) (hi : i < q.words) (he : q.destEnd ≤ 262143) :
    (q.destAt r i).toNat = q.dest + r * q.destPitch + i :=
  addressOfNat_toNat ((rectangle_le_end hr hi).trans he)

/-- Settles O46: the fields one by one, and the addresses from the end of the rectangle. -/
theorem theCopyRequestIsBroughtIntoRange : Obligations.TheCopyRequestIsBroughtIntoRange := by
  intro c word q
  exact ⟨c.copyRequest_mode_iff, rfl, rfl, rfl, clampTo_one (by decide) _, rfl, rfl, rfl, fun r i hr hi =>
    ⟨fun _ he => CopyRequest.sourceAt_toNat hr hi he, fun he => CopyRequest.destAt_toNat hr hi he⟩⟩

/-! ### The checks of START COPY (R125) -/

theorem spansMeet_eq_false_iff {a b x y : Nat} (hab : a ≤ b) (hxy : x ≤ y) :
    spansMeet a b x y = false ↔ ∀ n, a ≤ n → n ≤ b → ¬(x ≤ n ∧ n ≤ y) := by
  rw [← Bool.not_eq_true, spansMeet_iff hab hxy]
  simp only [not_exists, not_and, and_imp]

theorem CopyRequest.passes_iff {p : ParamSet} {straps : BitVec 2} (hw : 1 ≤ q.words) : q.passes p straps = true ↔
    (q.mode = .copy → q.sourceEnd ≤ 262143) ∧ q.destEnd ≤ 262143 ∧
      ∀ n, q.dest ≤ n → n ≤ q.destEnd → p.inPlane n = false ∧ inControlPage straps n = false := by
  have hd : q.dest ≤ q.destEnd := by rw [CopyRequest.destEnd]; omega
  have hsource : q.mode = .fill ∨ q.sourceEnd ≤ 262143 ↔ (q.mode = .copy → q.sourceEnd ≤ 262143) := by
    cases q.mode <;> simp
  simp only [CopyRequest.passes, Bool.and_eq_true, Bool.or_eq_true, decide_eq_true_eq, Bool.not_eq_true',
    spansMeet_eq_false_iff hd (Nat.le_add_right _ _), hsource, ← Bool.not_eq_true, ParamSet.inPlane_iff,
    inControlPage_iff, forall_and, and_assoc]

/-! ### The commands (R125, R132) -/

theorem State.doStartCopy_active (h : s.copy.outcome = .active) : s.doStartCopy = (s, .busy) := if_pos h

theorem State.doStartCopy_refused (h : s.copy.outcome ≠ .active)
    (hp : ¬s.control.copyRequest.passes s.standing s.straps = true) : s.doStartCopy = (s, .range) := by
  rw [State.doStartCopy, if_neg h, if_neg hp]

theorem State.doStartCopy_passed (h : s.copy.outcome ≠ .active)
    (hp : s.control.copyRequest.passes s.standing s.straps = true) :
    s.doStartCopy = (s.startCopy s.control.copyRequest, .done) := by
  rw [State.doStartCopy, if_neg h, if_pos hp]

/-- Settles O45: the take leaves the copy words, the standing set and the copy, so the checks are those of the state. -/
theorem startCopyChecksAndLatches : Obligations.StartCopyChecksAndLatches := by
  intro h rest s hs hh hc h6 t q destEnd passes
  have start {u : State} {o : CommandOutcome} (hact : t.doStartCopy = (u, o)) :
      exec .startCopy s = .next (u.recordCommand 6 o).afterEvent :=
    occur_command hs hh hc h6 (by decide) hact
  have hpasses : t.control.copyRequest.passes t.standing t.straps = true ↔ passes :=
    CopyRequest.passes_iff s.control.copyRequest_extent.2.2.1
  exact ⟨fun ha => start (State.doStartCopy_active ha),
    fun hn hf => start (State.doStartCopy_refused hn (mt hpasses.1 hf)),
    fun hn hp => start (State.doStartCopy_passed hn (hpasses.2 hp))⟩

theorem MemoryPort.copying_iff {p : MemoryPort} : p.copying = true ↔ ∃ a, p.current = some (.copy a true) := by
  unfold MemoryPort.copying
  split <;> simp_all

theorem State.doCancelCopy_ended (h : s.copy.outcome ≠ .active) : s.doCancelCopy = (s, .wrongState) := if_pos h

theorem State.doCancelCopy_again (h : s.copy.outcome = .active) (hc : s.copy.cancelling = true) :
    s.doCancelCopy = (s, .done) := by
  rw [State.doCancelCopy, if_neg (not_not_intro h), if_pos hc]

theorem State.doCancelCopy_granted (h : s.copy.outcome = .active) (hc : s.copy.cancelling = false)
    (hg : s.port.copying = true) :
    s.doCancelCopy = ({ s with copy := { s.copy with cancelling := true } }, .done) := by
  rw [State.doCancelCopy, if_neg (not_not_intro h), if_neg (Bool.not_eq_true _ ▸ hc), if_pos hg]

theorem State.doCancelCopy_waiting (h : s.copy.outcome = .active) (hc : s.copy.cancelling = false)
    (hg : ¬s.port.copying = true) : s.doCancelCopy = (({ s with
      port := { s.port with copyWaiting := none }
      capture := s.capture.release s.copy.decision } : State).endCopy .cancelled, .done) := by
  rw [State.doCancelCopy, if_neg (not_not_intro h), if_neg (Bool.not_eq_true _ ▸ hc), if_neg hg]

/-- Settles O47: the four states in which the command finds the copy. -/
theorem cancelCopyEndsOrWaits : Obligations.CancelCopyEndsOrWaits := by
  intro h rest s hs hh hc h7 t
  have cancel {u : State} {o : CommandOutcome} (hact : t.doCancelCopy = (u, o)) :
      exec .cancelCopy s = .next (u.recordCommand 7 o).afterEvent :=
    occur_command hs hh hc h7 (by decide) hact
  refine ⟨fun hn => cancel (State.doCancelCopy_ended hn), fun ha hk => cancel (State.doCancelCopy_again ha hk),
    fun ha hk a hg => ?_, fun ha hk hg => ?_⟩
  · exact cancel (State.doCancelCopy_granted (s := t) ha hk (MemoryPort.copying_iff.2 ⟨a, hg⟩))
  · exact cancel (State.doCancelCopy_waiting (s := t) ha hk fun k => (MemoryPort.copying_iff.1 k).elim hg)

/-! ### The position after a destination write (R126, R132) -/

/-- The position moved to the next word, or to the next row after the last word of a row (R126). -/
def CopyEngine.advanced (c : CopyEngine) (q : CopyRequest) : CopyEngine :=
  if c.word + 1 = q.words then { c with row := c.row + 1, word := 0, rowsRemaining := c.rowsRemaining - 1 }
  else { c with word := c.word + 1 }

theorem State.copyMoved_eq (s : State) (q : CopyRequest) : s.copyMoved q = { s with copy := s.copy.advanced q } := by
  unfold State.copyMoved CopyEngine.advanced
  split <;> rfl

theorem State.copyAdvance_cancelled (h : s.copy.cancelling = true) (q : CopyRequest) :
    s.copyAdvance q = ({ s with copy := s.copy.advanced q } : State).endCopy .cancelled := by
  rw [← s.copyMoved_eq]
  obtain ⟨-, e⟩ | ⟨hn, -⟩ := s.copyAdvance_cases q
  · exact e
  · exact absurd (h.symm.trans hn) (by decide)

theorem State.copyAdvance_last (h : s.copy.cancelling = false)
    (hl : s.copy.word + 1 = q.words ∧ s.copy.row + 1 = q.rows) :
    s.copyAdvance q = ({ s with copy := s.copy.advanced q } : State).endCopy .done := by
  rw [← s.copyMoved_eq]
  obtain ⟨hc, -⟩ | ⟨-, ⟨-, -, e⟩ | ⟨hn, -⟩⟩ := s.copyAdvance_cases q
  · exact absurd (h.symm.trans hc) (by decide)
  · exact e
  · exact absurd hl hn

theorem State.copyAdvance_next (h : s.copy.cancelling = false)
    (hn : ¬(s.copy.word + 1 = q.words ∧ s.copy.row + 1 = q.rows)) :
    s.copyAdvance q = ({ s with copy := s.copy.advanced q } : State).beginCopyWord := by
  rw [← s.copyMoved_eq]
  obtain ⟨hc, -⟩ | ⟨-, ⟨hw, hr, -⟩ | ⟨-, e⟩⟩ := s.copyAdvance_cases q
  · exact absurd (h.symm.trans hc) (by decide)
  · exact absurd ⟨hw, hr⟩ hn
  · exact e

/-! ### The destination writes (R128, R130, R134) -/

section
variable {a : Addr} {w : Word} {d : GuardDecision}

theorem State.classify_ne_plane (h : s.standing.inPlane a.toNat = false) : s.classify a ≠ .plane := fun k => by
  rw [State.classify_plane_iff, h] at k; cases k

theorem State.orphanCopyWritten_plane (h : s.standing.inPlane a.toNat = true) (w : Word) :
    s.orphanCopyWritten a w = s := if_pos (State.classify_plane_iff.2 h)

theorem State.orphanCopyWritten_landed (h : s.standing.inPlane a.toNat = false) (w : Word) :
    s.orphanCopyWritten a w = s.landed a .both w .unplaced := if_neg (State.classify_ne_plane h)

theorem State.copyWritten_plane (h : s.standing.inPlane a.toNat = true) (q : CopyRequest) (w : Word)
    (d : GuardDecision) : s.copyWritten q a w d = ({ s with capture := s.capture.release d } : State).endCopy .guarded :=
  if_pos (State.classify_plane_iff.2 h)

theorem State.copyWritten_landed (h : s.standing.inPlane a.toNat = false) (q : CopyRequest) (w : Word)
    (d : GuardDecision) : s.copyWritten q a w d = (s.landed a .both w d).copyAdvance q := if_neg (State.classify_ne_plane h)

theorem rowCopyWriteDone_orphan (hc : s.port.current = some (.copy (.write a w) false)) :
    rowCopyWriteDone s = some (s.endGrant.orphanCopyWritten a w) := by
  simp only [rowCopyWriteDone, hc, Bool.not_false, if_true]

theorem rowCopyWriteDone_owned {v : Word} (hc : s.port.current = some (.copy (.write a w) true))
    (hs : s.copy.step = .destWrite v d) (hq : s.copy.request = some q) :
    rowCopyWriteDone s = some (s.endGrant.copyWritten q a w d) := by
  simp only [rowCopyWriteDone, hc, hs, hq, Bool.not_true, Bool.false_eq_true, if_false]

end

/-- Settles O49: the write is withheld or lands, and a write that landed leaves the position as it was, to move on. -/
theorem aCopyWriteMovesOnOrEnds : Obligations.ACopyWriteMovesOnOrEnds := by
  intro s a w hs ended
  have done {t u : State} (hr : rowCopyWriteDone s = some t) (ht : t = u) :
      exec .copyWriteDone s = .next u.afterEvent :=
    ht ▸ occur_running_of_some hs.1 hs.2 hr
  refine ⟨fun hc => ?_, fun hc v d q hstep hq => ?_⟩
  · have row := rowCopyWriteDone_orphan hc
    exact ⟨fun hp => done row (State.orphanCopyWritten_plane (s := ended) hp w),
      fun hp => done row (State.orphanCopyWritten_landed (s := ended) hp w)⟩
  · have row := rowCopyWriteDone_owned hc hstep hq
    refine ⟨fun hp => done row (State.copyWritten_plane (s := ended) hp q w d), fun hp => ?_⟩
    intro landed next
    have hcopy : landed.copy = s.copy := by simp [landed, ended]
    have hnext : next = landed.copy.advanced q := by rw [hcopy]; rfl
    have moves {t : State} (hm : landed.copyAdvance q = t) : exec .copyWriteDone s = .next t.afterEvent :=
      done row ((State.copyWritten_landed (s := ended) hp q w d).trans hm)
    rw [hnext, ← hcopy]
    exact ⟨fun hk => moves (State.copyAdvance_cancelled hk q),
      fun hk hw hr => moves (State.copyAdvance_last hk ⟨hw, hr⟩),
      fun hk hn => moves (State.copyAdvance_next hk hn)⟩

end Sys2Proof.Machine
end

section
/-! PROOFS. The control block (spec/10 10.3–10.5): a staged write by its offset, what every command take records, and
COMMIT, RELEASE, REPORT NOW and RESWEEP ALL. -/

namespace Sys2Proof.Machine

variable {s : State} {h : HandOver} {rest : List HandOver}

/-! ### Staged writes (R139) -/

theorem HandOver.isCommand_iff :
    h.isCommand = true ↔ h.offset = 0 ∧ h.lanes.hasLow = true ∧ lowByte h.data ≠ 0 := by
  simp only [HandOver.isCommand, Bool.and_eq_true, decide_eq_true_eq, and_assoc]

theorem HandOver.newArgument_iff : h.newArgument = true ↔ h.offset = 0 ∧ h.lanes.hasHigh = true := by
  simp only [HandOver.newArgument, Bool.and_eq_true, decide_eq_true_eq]

/-- The argument latch after the take: the HIGH lane carried to offset 0. -/
theorem State.takeHandOver_eq (s : State) (h : HandOver) (rest : List HandOver) :
    s.takeHandOver h rest = { s with control := { s.control with
      handOvers := rest
      argument := if h.offset = 0 ∧ h.lanes.hasHigh = true then highByte h.data else s.control.argument } } := by
  simp only [State.takeHandOver, HandOver.newArgument_iff]

/-- The words whose offsets are `first` to `last`, after a hand-over. -/
def HandOver.stagedIn {n : Nat} (h : HandOver) (first last : Nat) (words : Vector Word n) : Vector Word n :=
  if first ≤ h.offset ∧ h.offset ≤ last then
    words.setIfInBounds (h.offset - first) (mergeLanes h.lanes (entry words (h.offset - first) 0) h.data)
  else words

/-- The three ranges of offsets lie apart, so that a hand-over stages a word of one of them or of none. -/
theorem ControlBlock.latch_eq (c : ControlBlock) (h : HandOver) : c.latch h = { c with
    params := h.stagedIn 1 29 c.params, tables := h.stagedIn 64 95 c.tables
    copyWords := h.stagedIn 96 105 c.copyWords } := by
  unfold ControlBlock.latch HandOver.stagedIn
  by_cases hparam : 1 ≤ h.offset ∧ h.offset ≤ 29
  · rw [if_pos hparam, if_pos hparam, if_neg (by omega), if_neg (by omega)]
  · rw [if_neg hparam, if_neg hparam]
    by_cases htable : 64 ≤ h.offset ∧ h.offset ≤ 95
    · rw [if_pos htable, if_pos htable, if_neg (by omega)]
    · rw [if_neg htable, if_neg htable]
      by_cases hcopy : 96 ≤ h.offset ∧ h.offset ≤ 105
      · rw [if_pos hcopy, if_pos hcopy]
      · rw [if_neg hcopy, if_neg hcopy]

theorem rowStagedWrite_of (hh : s.control.handOvers = h :: rest) (hc : ¬h.isCommand = true) : rowStagedWrite s =
    some { s.takeHandOver h rest with control := (s.takeHandOver h rest).control.latch h } := by
  rw [rowStagedWrite, hh]
  exact if_neg hc

/-- Settles O15: the take writes the argument latch, and the offset chooses the block of words that is staged. -/
theorem aStagedWriteReplacesTheCarriedLanes : Obligations.AStagedWriteReplacesTheCarriedLanes := by
  intro h rest s hs hh hn
  have hrow := rowStagedWrite_of hh (mt HandOver.isCommand_iff.1 hn)
  rw [ControlBlock.latch_eq, State.takeHandOver_eq] at hrow
  exact occur_running_of_some hs.1 hs.2 hrow

/-! ### The record of a command take (R145, R150, R152, R153) -/

/-- Code and outcome are recorded. -/
def State.outcomeNoted (s : State) (code : Byte) (o : CommandOutcome) : State :=
  { s with control := { s.control with lastCode := code, lastOutcome := o } }

theorem State.recordCommand_done (s : State) (code : Byte) :
    s.recordCommand code .done = (s.outcomeNoted code .done).reportDue := rfl

theorem State.recordCommand_refused {o : CommandOutcome} (ho : o ≠ .done) (s : State) (code : Byte) :
    s.recordCommand code o = (s.outcomeNoted code o).reportDue.enterCause .refused := if_neg ho

theorem State.recordCommand_made (s : State) (code : Byte) (o : CommandOutcome) :
    s.ReportMade (s.recordCommand code o) := by
  have hdue := (s.outcomeNoted code o).reportDue_made
  have hnoted : s.ReportMade (s.outcomeNoted code o).reportDue := ⟨hdue.due, hdue.asked, hdue.covered⟩
  by_cases ho : o = .done
  · subst ho
    exact hnoted
  · rw [State.recordCommand_refused ho]
    exact hnoted.again (State.enterCause_made _ .refused)

/-- The record leaves every block but the control block, the report unit and the report unit's request. -/
theorem State.recordCommand_frame (s : State) (code : Byte) (o : CommandOutcome) : s.recordCommand code o = { s with
    control := (s.recordCommand code o).control
    report := { (s.recordCommand code o).report with
      quietArmed := s.report.quietArmed, writeCount := s.report.writeCount }
    port := { s.port with reportWaiting := (s.recordCommand code o).port.reportWaiting } } := by
  by_cases ho : o = .done
  · subst ho
    rfl
  · rw [State.recordCommand_refused ho]
    rfl

theorem State.recordCommand_control (s : State) (code : Byte) (o : CommandOutcome) :
    (s.recordCommand code o).control = { s.control with lastCode := code, lastOutcome := o } := by
  by_cases ho : o = .done
  · subst ho
    rfl
  · rw [State.recordCommand_refused ho]
    rfl

/-- Settles O16: the take, the record by its outcome, and the row of an unknown code. -/
theorem everyCommandTakeIsRecorded : Obligations.EveryCommandTakeIsRecorded := by
  refine ⟨fun h rest s h0 => ?_, fun s code o => ⟨_, rfl, s.recordCommand_control code o, s.recordCommand_made code o,
    fun ho => ?_, fun ho => ?_, s.recordCommand_frame code o⟩, fun h rest s hs hh hc hcode => ?_⟩
  · simp only [State.takeHandOver_eq, h0, true_and]
  · rw [ho, State.recordCommand_done]
    exact ⟨rfl, rfl⟩
  · rw [State.recordCommand_refused ho]
    exact ⟨rfl, rfl⟩
  · exact occur_command hs hh hc rfl (decide_eq_true hcode) rfl

/-! ### COMMIT (R141) -/

theorem State.doCommit_busy {p : ParamSet} (h : s.control.checked = some p) : s.doCommit = (s, .busy) :=
  if_pos (by rw [h]; rfl)

/-- Settles O17: a commit that waits, and the candidate by its checks. -/
theorem commitChecksACandidate : Obligations.CommitChecksACandidate := by
  intro h rest s hs hh hc h1 t
  have commit {u : State} {o : CommandOutcome} (hact : t.doCommit = (u, o)) :
      exec .commit s = .next (u.recordCommand 1 o).afterEvent :=
    occur_command hs hh hc h1 (by decide) hact
  refine ⟨fun p hp => commit (State.doCommit_busy (s := t) hp), fun hn hpass => commit ?_, fun hn hfail => commit ?_⟩
  · exact (State.doCommit_takeHandOver hn).trans (if_pos hpass)
  · exact (State.doCommit_takeHandOver hn).trans (if_neg (Bool.not_eq_true _ ▸ hfail))

/-! ### RELEASE, REPORT NOW and RESWEEP ALL (R74, R146, R147) -/

/-- The causes that a RELEASE with the argument `arg` leaves pending. -/
def keptCauses (causes : BitVec 6) (arg : Byte) : BitVec 6 := causes &&& ~~~(arg.setWidth 6)

theorem keptCauses_getLsbD (causes : BitVec 6) (arg : Byte) {k : Nat} (hk : k < 6) :
    (keptCauses causes arg).getLsbD k = (causes.getLsbD k && !arg.getLsbD k) := by
  simp [keptCauses, hk]

theorem State.doRelease_eq (s : State) : s.doRelease = ({ s with report := { s.report with
    causes := keptCauses s.report.causes s.control.argument
    atn := decide (keptCauses s.report.causes s.control.argument &&& s.standing.enables ≠ 0) } }, .done) := rfl

/-- A mark that names every line gives each the same flag and hold (R68, R74). -/
theorem StaleSet.mark_all (stale : StaleSet) (depth : Nat) :
    stale.mark (fun _ => true) depth = { stale with lines := Vector.replicate 512 ⟨true, depth⟩ } := by
  have hlines : (stale.mark (fun _ => true) depth).lines = Vector.replicate 512 ⟨true, depth⟩ :=
    Vector.ext fun l hl => (stale.mark_lines _ depth ⟨l, hl⟩).trans (Vector.getElem_replicate hl).symm
  rw [← hlines]
  rfl

theorem State.doResweepAll_lit (h : s.seq.panel = .lit) : s.doResweepAll = ({ s with
    stale := { s.stale with lines := Vector.replicate 512 ⟨true, s.capture.records.length⟩ } }, .done) := by
  rw [State.doResweepAll, if_pos h, StaleSet.mark_all]

theorem State.doResweepAll_wrongState (h : s.seq.panel ≠ .lit) : s.doResweepAll = (s, .wrongState) := if_neg h

/-- Settles O22: what each of the three commands does at its take. -/
theorem releaseReportNowAndResweepAll : Obligations.ReleaseReportNowAndResweepAll := by
  refine ⟨fun h rest s hs hh hc => ?_, fun h rest s hs hh hc h8 => ?_⟩ <;> intro t
  · refine ⟨fun h5 => ?_, fun h9 => occur_command hs hh hc h9 (by decide) rfl⟩
    exact ⟨keptCauses s.report.causes t.control.argument, occur_command hs hh hc h5 (by decide) t.doRelease_eq,
      fun k hk => keptCauses_getLsbD _ _ hk⟩
  · exact ⟨fun hl => occur_command hs hh hc h8 (by decide) (State.doResweepAll_lit (s := t) hl),
      fun hl => occur_command hs hh hc h8 (by decide) (State.doResweepAll_wrongState (s := t) hl)⟩

end Sys2Proof.Machine
end

section
/-! PROOFS. The report record (spec/10 10.2): its words as numbers. -/

namespace Sys2Proof.Machine

/-! ### The numbers that words carry (R137, R138) -/

theorem pack_toNat (hi lo : Byte) : (pack hi lo).toNat = lo.toNat + 256 * hi.toNat := by
  rw [pack, BitVec.toNat_append, ← Nat.shiftLeft_add_eq_or_of_lt lo.isLt, Nat.shiftLeft_eq]
  omega

/-- A packed word from the numbers in its two bytes. -/
theorem pack_toNat_of {hi lo : Byte} {m n : Nat} (hlo : lo.toNat = m) (hhi : hi.toNat = n) :
    (pack hi lo).toNat = m + 256 * n := by
  rw [pack_toNat, hlo, hhi]

/-- A count that its field has room for. -/
theorem toNat_ofNat_of_lt {w n : Nat} (h : n < 2 ^ w) : (BitVec.ofNat w n).toNat = n :=
  (BitVec.toNat_ofNat n w).trans (Nat.mod_eq_of_lt h)

/-- A count of 32 bits from its two words. -/
theorem words_toNat (c : BitVec 32) :
    (c.extractLsb' 0 16).toNat + 65536 * (c.extractLsb' 16 16).toNat = c.toNat := by
  have hlt := c.isLt
  rw [BitVec.extractLsb'_toNat, BitVec.extractLsb'_toNat, Nat.shiftRight_eq_div_pow, Nat.shiftRight_eq_div_pow]
  omega

theorem StaleSet.count_eq_filter (t : StaleSet) : t.count = (t.lines.toList.filter (·.stale)).length :=
  List.countP_eq_length_filter

theorem StaleSet.count_le (t : StaleSet) : t.count ≤ 512 :=
  List.countP_le_length.trans_eq t.lines.length_toList

/-- Settles O44: word by word, each count within the width it is written in. -/
theorem theRecordHasTheStatedLayout : Obligations.TheRecordHasTheStatedLayout := by
  intro s count hrecoveries hrecords hqueue hrows word state outcome copied
  have hstate : state = s.seq.panel.code.toNat := by
    simp only [state]; cases s.seq.panel <;> rfl
  have houtcome : outcome = s.control.lastOutcome.code.toNat := by
    simp only [outcome]; cases s.control.lastOutcome <;> rfl
  have hcopied : copied = s.copy.outcome.code.toNat := by
    simp only [copied]; cases s.copy.outcome <;> rfl
  rw [hstate, houtcome, hcopied, ← StaleSet.count_eq_filter]
  have hstale := s.stale.count_le
  have six (b : BitVec 6) : (b.setWidth 8).toNat = b.toNat := BitVec.toNat_setWidth_of_le (by decide)
  exact ⟨rfl, rfl, pack_toNat_of rfl (toNat_ofNat_of_lt (by omega)), pack_toNat_of (six _) rfl, pack_toNat_of rfl rfl,
    pack_toNat_of (n := 0) (six _) rfl, pack_toNat_of rfl rfl, pack_toNat_of (toNat_ofNat_of_lt (by omega)) rfl,
    toNat_ofNat_of_lt (by omega), toNat_ofNat_of_lt (by omega), toNat_ofNat_of_lt (by omega), words_toNat _,
    rfl, rfl, rfl, pack_toNat_of rfl rfl⟩

end Sys2Proof.Machine
end

section
/-! PROOFS. The step of a queue that is not empty, and the state after reset: the part at POR_END has every invariant that
the steps keep (spec/04 4.8, spec/06 6.8, spec/07 7.1, spec/08 8.7, spec/11 11.4). -/

namespace Sys2Proof.Machine

/-! ### The front command -/

theorem step_of_pending_cons {s : State} {c : Instr} {rest : List Instr} (h : s.pending = c :: rest) :
    step s = exec c { s with pending := rest } := by
  rw [step, h]

/-- Settles O1: the second equation of `step`. -/
theorem stepRunsTheFrontCommand : Obligations.StepRunsTheFrontCommand := fun _ _ _ => step_of_pending_cons

/-! ### Memory, pins and the memory port -/

/-- No cause is pending, so ATN is negated whatever is enabled; HVEN is off in DARK. -/
theorem State.reset_outputsOk : State.reset.OutputsOk :=
  (State.outputsOk_iff rfl).2 ⟨by simp [State.AtnDecided, State.reset, ReportUnit.por], rfl⟩

/-- No cycle is in hand or presented: RDY is high and no passthrough access is asked for. -/
theorem State.reset_passageOk : State.reset.PassageOk where
  rdy := rfl
  single h := nomatch h
  stall := rfl
  request _ := by simp [State.reset, Passage.por, MemoryPort.por]
  once _ h := nomatch h.1

/-- No grant is in progress and no refresh is pending; the refresh timer runs. -/
theorem State.reset_portOk : State.reset.PortOk where
  deciding _ _ := rfl
  refresh _ := by simp [State.reset, MemoryPort.por]
  timer _ := rfl

/-! ### The sequencer and the address stage -/

/-- In DARK every timer stands, the count is 0 and the group sets are empty. -/
theorem State.reset_sequencerOk : State.reset.SequencerOk where
  count := Nat.zero_le 5
  limit h := nomatch h
  barred h := nomatch h
  charge := rfl
  rest := rfl
  lit h := nomatch h
  completed h := nomatch h
  clearing h := nomatch h
  groupsX := BitVec.zero_and
  groupsY := BitVec.zero_and

theorem State.reset_debounceOk : State.reset.DebounceOk :=
  State.debounceOk_iff.2 fun _ => .of_stopped rfl rfl Sequencer.por_groupTimer

theorem State.reset_setsOk : State.reset.SetsOk := .of_standing (ParamSet.por_valid 0) rfl

/-- The sustain is stopped, as DARK asks. -/
theorem State.reset_addressOk : State.reset.AddressOk :=
  State.addressOk_iff.2 ⟨State.reset_setsOk, .por, fun _ => rfl⟩

/-! ### The picture and the copy engine -/

theorem State.reset_captureOk : State.reset.CaptureOk :=
  .of_list (.of_empty rfl rfl fun l => congrArg StaleLine.hold (StaleSet.clear_lines l)) (fun _ => ⟨rfl, rfl⟩) fun _ => rfl

theorem State.reset_queueOk : State.reset.QueueOk := .of_empty rfl rfl ⟨Nat.zero_lt_succ 511, Nat.zero_lt_succ 31⟩

theorem State.reset_renderOk : State.reset.RenderOk :=
  .of_idle rfl rfl rfl (fun h => nomatch h) (Nat.zero_le 8) (Nat.zero_le 16384)

theorem State.reset_copyOk : State.reset.CopyOk :=
  .of_ended (fun _ h => nomatch h) (fun h => nomatch h) rfl rfl rfl rfl

/-! ### The correspondence law -/

/-- The first image grant waits at the port, and a report is due (R119, R155). -/
theorem State.reset_reportUnitOk : State.reset.ReportUnitOk where
  stage _ := .imageAsked 1
  block _ h := nomatch h
  due _ h := nomatch h

/-- In DARK the law asks nothing of the glass; its companions are the invariants above. -/
theorem State.reset_lawOk : State.reset.LawOk :=
  State.lawOk_iff.2 ⟨State.reset_setsOk, State.reset_queueOk, State.reset_renderOk, State.reset_sequencerOk,
    State.reset_reportUnitOk, .of_unaddressed (fun h => nomatch h) fun h => nomatch h⟩

/-- Settles O54: one invariant after the other, each from the POR values of its block. -/
theorem resetHasEveryInvariant : Obligations.ResetHasEveryInvariant :=
  ⟨State.wf_reset, State.reset_outputsOk, State.reset_passageOk, State.reset_portOk, State.reset_sequencerOk,
    State.reset_debounceOk, State.reset_addressOk, State.reset_captureOk, State.reset_queueOk, State.reset_renderOk,
    State.reset_copyOk, State.reset_lawOk⟩

end Sys2Proof.Machine
end
